-- ==== Sys2Proof/Word.lean ====
section
/-! DEFINITION. The plain number types of the Jaskol 480: bytes on its ports, station and lane numbers,
sets of stations. -/

namespace Sys2Proof

/-- One byte on a port or in held memory (chapter 11). -/
abbrev Byte := BitVec 8

/-- A station number 0 to 7, as the straps give it (section 1.1 of 00_scope.md, R177). -/
abbrev Station := Fin 8

/-- A lane number 0 to 3 (R67). -/
abbrev Lane := Fin 4

/-- A set of station numbers, bit n standing for station n as the CHUNK record carries it
(section 3.6 of 00_scope.md, Table 11-4). -/
abbrev StationSet := BitVec 8

/-- The stations in ascending order (section 3.6 of 00_scope.md). -/
def allStations : List Station := [0, 1, 2, 3, 4, 5, 6, 7]

/-- The lanes in ascending order. -/
def allLanes : List Lane := [0, 1, 2, 3]

end Sys2Proof
end

