-- ==== Sys2Proof/Syntax.lean ====
section
/-! DEFINITION. The commands of the Jaskol 480: one constructor of `Instr` per row of spec/opcode_table.json,
with the operands that the rule of the row names. The table gives no bits and no operands, so the operands are
read from the rules (notes/assumptions/1.md). -/

namespace Sys2Proof

/-- The two item kinds: sold by count, or by weight (R25). -/
inductive ItemKind where
  | unit | weighed
  deriving DecidableEq, Repr

/-- A multibuy: a count of units for a group price (R25). -/
structure Multibuy where
  count : Nat
  group : Nat
  deriving DecidableEq, Repr

/-- A price state: a price, a markdown in basis points and an optional multibuy (R25). -/
structure PriceState where
  price    : Nat
  markdown : Nat
  multibuy : Option Multibuy
  deriving DecidableEq, Repr

/-- A price set (section 2.2): version, item code, kind, tax class and a price state, or the DELIST marker
(`body = none`). It is what PRICE and BATCH_REC carry. -/
structure PriceSet where
  version  : Nat
  code     : Nat
  kind     : ItemKind
  taxClass : Fin 4
  body     : Option PriceState
  deriving DecidableEq, Repr

/-- How an attempt of this station ended on the line, as the station reads it (R4, R7): it lost the claim word; it read
a level it did not send after the claim word; or it sent the whole frame and read its two windows. -/
inductive AttemptEnd where
  | lostClaim
  | mismatch
  | sent (ackFirm markFirm : Bool)
  deriving DecidableEq, Repr

/-- The strap pins as wired on the board (R177). `lanes` may be wired above 4 and is then read as 4. -/
structure Straps where
  station    : Station
  uplink     : Bool
  guestPort  : Bool
  labelRadio : Bool
  lanes      : Nat
  deriving DecidableEq, Repr

/-- What every lane request frame carries beside its kind and parameters: the lane it came on, the request number and
the confirmation byte (R68). -/
structure Request where
  lane    : Lane
  number  : Nat
  confirm : Nat
  deriving DecidableEq, Repr

/-- The decisions head office answers with (R135). -/
inductive OfficeDecision where
  | approved | declined
  deriving DecidableEq, Repr

/-- An outbound guest packet as the access point passes it on (section 8.4, R190). -/
structure GuestPacket where
  address  : Nat
  port     : Nat
  dest     : Nat
  destPort : Nat
  data     : List Byte
  deriving DecidableEq, Repr

/-- The commands of spec/opcode_table.json, in the table's order. -/
inductive Instr where
  /-- LINE_REST (R6). -/
  | lineRest
  /-- ATTEMPT_END (R8): how the attempt under way ended. -/
  | attemptEnd (how : AttemptEnd)
  /-- FRAME_RECEIVE (R3): the claim word, every byte heard after it (kind, destination, length, payload, check
  sequence; fewer where the frame was cut short), and whether another station drove the mark window firm. -/
  | frameReceive (claim : BitVec 6) (bytes : List Byte) (marked : Bool)
  /-- QUIET_SPELL (R14). -/
  | quietSpell
  /-- BEACON_DUE (R19). -/
  | beaconDue
  /-- ENTRY_QUIET (R20): the peer whose entry is 3 s old. -/
  | entryQuiet (peer : Station)
  /-- ENTRY_ABSENT (R20): the peer whose entry is 10 s old. -/
  | entryAbsent (peer : Station)
  /-- TAKE_PRICE (R27). -/
  | takePrice
  /-- TAKE_SHOWN (R33). -/
  | takeShown
  /-- TAKE_HOLD (R34, R35). -/
  | takeHold
  /-- WATCH_EXPIRY (R39). -/
  | watchExpiry
  /-- TAKE_CHUNK (R46). -/
  | takeChunk
  /-- PULL_TIMER_EXPIRY (R47). -/
  | pullTimerExpiry
  /-- LANE_FRAME_BAD (R68): the lane whose request frame was bad. -/
  | laneFrameBad (lane : Lane)
  /-- OPEN (R74). -/
  | openBasket (r : Request)
  /-- SCAN (R56): item and count. -/
  | scan (r : Request) (item count : Nat)
  /-- WEIGH (R57): item and grams. -/
  | weigh (r : Request) (item grams : Nat)
  /-- VOID (R62): the line number. -/
  | voidLine (r : Request) (line : Nat)
  /-- ASK (R76): the item. -/
  | ask (r : Request) (item : Nat)
  /-- TOTAL (R77). -/
  | total (r : Request)
  /-- RESUME (R77). -/
  | resume (r : Request)
  /-- CASH (R78): the amount. -/
  | cash (r : Request) (amount : Nat)
  /-- CARD (R79): the amount. -/
  | card (r : Request) (amount : Nat)
  /-- CANCEL (R80). -/
  | cancel (r : Request)
  /-- CLOSE (R81). -/
  | close (r : Request)
  /-- AUTH_TIMER_EXPIRY (R84): the lane whose auth entry is 15 s old. -/
  | authTimerExpiry (lane : Lane)
  /-- TAKE_AUTHA (R83). -/
  | takeAutha
  /-- LATE_ENTRY_EXPIRY (R86): the lane whose oldest late entry is 60 s old. -/
  | lateEntryExpiry (lane : Lane)
  /-- LANE_RESET (R88). -/
  | laneReset (lane : Lane)
  /-- TAKE_JPULL (R99). -/
  | takeJpull
  /-- TAKE_JREL (R101). -/
  | takeJrel
  /-- LABEL_ACK (R111): the radio id that answered and its battery class. -/
  | labelAck (radioId : Nat) (battery : Fin 4)
  /-- UPDATE_TIMEOUT (R112). -/
  | updateTimeout
  /-- NOT_BEFORE_EXPIRY (R113): the index of the label whose wait is over. -/
  | notBeforeExpiry (index : Nat)
  /-- BIND (R116): radio id and item. -/
  | bind (r : Request) (radioId item : Nat)
  /-- UNBIND (R119): radio id. -/
  | unbind (r : Request) (radioId : Nat)
  /-- RELEASE (R120): item. -/
  | release (r : Request) (item : Nat)
  /-- LABEL (R121): radio id. -/
  | label (r : Request) (radioId : Nat)
  /-- CLEAR (R187). -/
  | clear (r : Request)
  /-- LINK (R124): the state the carrier unit reports. -/
  | link (up : Bool)
  /-- CARRIER_PRESENCE_LOST (R124). -/
  | carrierPresenceLost
  /-- CARRIER_FREE (R131). -/
  | carrierFree
  /-- UPLINK_MALFORMED (R126, R190). -/
  | uplinkMalformed
  /-- TAKE_AUTHQ (R134). -/
  | takeAuthq
  /-- OFFICE_AUTH_ANS (R135): tag and decision. -/
  | officeAuthAns (tag : Nat) (decision : OfficeDecision)
  /-- AUTH_ENTRY_EXPIRY (R136): the tag of the entry that is 20 s old. -/
  | authEntryExpiry (tag : Nat)
  /-- FLOW_IDLE_EXPIRY (R138): the index of the flow unused for 120 s. -/
  | flowIdleExpiry (index : Nat)
  /-- GUEST_PACKET_IN (R140): uplink port and packet bytes. -/
  | guestPacketIn (port : Nat) (data : List Byte)
  /-- ASSOC (R146): the client. -/
  | assoc (address : Nat)
  /-- DISASSOC (R153): the client. -/
  | disassoc (address : Nat)
  /-- GUEST_PACKET_OUT (R148). -/
  | guestPacketOut (packet : GuestPacket)
  /-- AP_RESET (R154). -/
  | apReset
  /-- STATUS (R190). -/
  | status
  /-- GUEST_FRAME_BAD (R190). -/
  | guestFrameBad
  /-- AP_LINK_LOST (R154). -/
  | apLinkLost
  /-- BUCKET_REFILL (R150). -/
  | bucketRefill
  /-- SESSION_END (R153): the guest table slot. -/
  | sessionEnd (slot : Fin 64)
  /-- DAY_ROLL (R182). -/
  | dayRoll
  /-- WINDOW_OPEN_TIME (R160). -/
  | windowOpenTime
  /-- DEADLINE_1 (R170). -/
  | deadline1
  /-- DEADLINE_2 (R170). -/
  | deadline2
  /-- OPEN_HOURS_EDGE (R144). -/
  | openHoursEdge
  /-- TAKE_CLAIM (R161). -/
  | takeClaim
  /-- NIGHT_HELD (R171). -/
  | nightHeld
  /-- NIGHT_PRICES_DONE (R171). -/
  | nightPricesDone
  /-- NIGHT_TIME (R171). -/
  | nightTime
  /-- NIGHT_CLOSED (R173). -/
  | nightClosed
  /-- CLAIM_WAIT_EXPIRY (R161). -/
  | claimWaitExpiry
  /-- SEGMENT_WAIT_EXPIRY (R165). -/
  | segmentWaitExpiry
  /-- JTAKEN (R166): station and sequence number. -/
  | jtaken (station seq : Nat)
  /-- TAKEN_WAIT_EXPIRY (R166). -/
  | takenWaitExpiry
  /-- BATCH_REC (R167): one price set. -/
  | batchRec (set : PriceSet)
  /-- BATCH_END (R167): the newest version of the night's batch. -/
  | batchEnd (newest : Nat)
  /-- STALL_WAIT_EXPIRY (R167). -/
  | stallWaitExpiry
  /-- OFFICE_TIME (R168): day number and second of day. -/
  | officeTime (day second : Nat)
  /-- TIME_WAIT_EXPIRY (R168). -/
  | timeWaitExpiry
  /-- DAY_DRAIN_REST_END (R175). -/
  | dayDrainRestEnd
  /-- POWER_ON (R178): the strap pins, and whether held memory shows the state its last commit left. -/
  | powerOn (pins : Straps) (heldKept : Bool)
  /-- RESET_PIN (R178): the strap pins, and whether held memory shows the state its last commit left. -/
  | resetPin (pins : Straps) (heldKept : Bool)
  /-- PROFILE_READ_DONE (R180): the bytes the configuration memory gave; none where it did not answer. -/
  | profileReadDone (bytes : Option (List Byte))
  /-- LISTEN_WAIT_EXPIRY (R180). -/
  | listenWaitExpiry
  /-- UNKNOWN_REQUEST (R70): the lane and request number of a frame of unknown kind. -/
  | unknownRequest (lane : Lane) (number : Nat)
  /-- LANE_ANSWER_SENT (R69): the lane. -/
  | laneAnswerSent (lane : Lane)
  /-- LANE_BREAK_END (R88): the lane. -/
  | laneBreakEnd (lane : Lane)
  /-- POWER_LOSS (R91). -/
  | powerLoss
  deriving DecidableEq, Repr

end Sys2Proof
end

