-- ==== Sys2Proof/Decode.lean ====
section
/-! DEFINITION. The command that a word of bits spells by spec/opcode_table.json. Every row of that table has an empty list of
fields and gives no bits, so no word spells a command. The byte layouts that chapter 11 gives its ports are in
Machine/Ports.lean. -/

namespace Sys2Proof

/-- No row of the table gives bits, so every word spells none. -/
def decodeTableWord (_nbits _w : Nat) : Option Instr := none

end Sys2Proof
end

