-- ==== Sys2Proof/Config.lean ====
section
/-! DEFINITION. The fixed figures of the manual: durations in milliseconds of running time, depths, capacities and
marks. Each cites its rule. No value of this machine is left free by the manual after an operation, so there is no
opaque constant here (INVENTORY.md, "What the manual leaves open"). -/

namespace Sys2Proof.Config

/-- A roster entry goes QUIET 3 s after its peer was last heard (R20). -/
def quietAfter : Nat := 3000
/-- A roster entry goes ABSENT 10 s after its peer was last heard (R20). -/
def absentAfter : Nat := 10000
/-- The beacon period (R19). -/
def beaconPeriod : Nat := 1000
/-- SILENCED is entered when SFC reaches 256 (R12). -/
def sfcLimit : Nat := 256
/-- HFC does not rise above 255 (R11). -/
def hfcLimit : Nat := 255
/-- FULL needs both counts below 96 (R12). -/
def guardedMark : Nat := 96
/-- A FAULTED or UNHEARD attempt adds 8 to SFC (R11). -/
def sfcPenalty : Nat := 8
/-- Quiet spells that make a line restart (R14). -/
def quietSpells : Nat := 32
/-- Depths of the four inboxes (R16). -/
def itemDepth : Nat := 32
def journalDepth : Nat := 8
def nightDepth : Nat := 8
def authDepth : Nat := 16

/-- Capacity of the item table (R25). -/
def maxItems : Nat := 16384
/-- Highest item code (R25, R28). -/
def maxCode : Nat := 99999999
/-- Highest price (R25, R28). -/
def maxPrice : Nat := 999999
/-- Highest markdown in basis points (R25, R28). -/
def maxMarkdown : Nat := 9000
/-- Highest multibuy group price, and highest line amount (R25, R57). -/
def maxGroup : Nat := 9999999
/-- Highest basket total and cash amount (R53, R78). -/
def maxTotal : Nat := 99999999
/-- Highest line number (R53). -/
def maxLines : Nat := 64
/-- Capacity and life of the watch list (R38). -/
def maxWatch : Nat := 256
def watchLife : Nat := 7200000
/-- Width of the seen-window (R40). -/
def seenWindow : Nat := 256
/-- Capacity of the deferred list (R37). -/
def maxDeferred : Nat := 128
/-- Capacity of the touched list (R49). -/
def maxTouched : Nat := 128
/-- The pull timer (R45). -/
def pullWait : Nat := 2000

/-- The lane's card timer (R84). -/
def authWait : Nat := 15000
/-- Life and capacity of the late list (R86). -/
def lateLife : Nat := 60000
def maxLate : Nat := 8

/-- Cells of the journal, of a reservation, and the last sequence number (R89, R94, R90). -/
def journalCells : Nat := 24576
def reservation : Nat := 69
def lastSequence : Nat := 4294967295
/-- The marks on used cells (R93). -/
def highMark : Nat := 18432
def pauseMark : Nat := 22528
def drainEndMark : Nat := 9216
/-- Bytes of a cell and of a full segment (R89, R100). -/
def cellBytes : Nat := 32
def segmentBytes : Nat := 224
/-- Records in a batch (R99, R165). -/
def batchRecords : Nat := 16

/-- Capacity of the label table (R105). -/
def maxLabels : Nat := 1024
/-- A label answers within 120 ms (R110). -/
def labelWait : Nat := 120

/-- Loss of the carrier unit's or the AP's presence (R124, R154). -/
def presenceLife : Nat := 3000
/-- Capacities of the class queues and the note backlog (R128, R142). -/
def authPlaces : Nat := 64
def nightPlaces : Nat := 32
def guestPlaces : Nat := 128
def servicePlaces : Nat := 16
def backlogPlaces : Nat := 16
/-- The longest item on the carrier link (R127). -/
def maxItem : Nat := 1600
/-- Quanta (R132). -/
def nightQuantum : Nat := 4000
def serviceQuantum : Nat := 500
def guestQuantumFull : Nat := 1500
def guestQuantumLow : Nat := 750
/-- Life of an AUTH entry, tags (R133, R136). -/
def authEntryLife : Nat := 20000
def maxTags : Nat := 64
/-- GUEST flows (R138). -/
def maxFlows : Nat := 512
def flowLife : Nat := 120000
def firstPort : Nat := 20000
/-- The counts of R143 and R156 stop here. -/
def countLimit : Nat := 65535

/-- Guest sessions, buckets and allowances (R145, R147, R150). -/
def sessionLife : Nat := 3600000
def bucketFull : Nat := 65536
def bucketStep : Nat := 1000
def bucketPeriod : Nat := 4
def dayAllowance : Nat := 500000000
def minPacket : Nat := 64
def maxPacket : Nat := 1600
def strikesOut : Nat := 3

/-- Waits of the night exchange (R161, R165 to R168, R176). -/
def claimWait : Nat := 2000
def segmentWait : Nat := 2000
def takenWait : Nat := 30000
def stallWait : Nat := 60000
def timeWait : Nat := 60000
def restTime : Nat := 600000
/-- Refused and overdue codes listed in a report (R167, R169). -/
def maxListed : Nat := 256
/-- The undrained-night count stops here (R174). -/
def maxUndrained : Nat := 255
/-- The listen wait (R180). -/
def listenWait : Nat := 2000
/-- Running time is a 48-bit count of milliseconds (R182). -/
def runningTimes : Nat := 281474976710656
/-- Seconds of a day and days of the day number (R182). -/
def daySeconds : Nat := 86400
def dayModulus : Nat := 65536

end Sys2Proof.Config
end

