-- ==== Sys2Proof/Machine/State.lean ====
section
/-! DEFINITION. The whole state of one Jaskol 480 as plain data, block by block (section 1.3 of 00_scope.md), the
reasons a step can stop, and the state after reset. Fields that are the model's own and not the manual's say so. -/

namespace Sys2Proof.Machine

/-! ## Shared small types -/

/-- The clock fields that stamp a record: valid flag, day number, second of day; 0 and 0 while the clock is invalid
(R92, R182, R185). -/
structure Stamp where
  valid  : Bool
  day    : Nat
  second : Nat
  deriving DecidableEq, Repr

/-- The Line Port's condition on the line (R12). -/
inductive Standing where
  | full | guarded | silenced
  deriving DecidableEq, Repr

/-- Night states (R158). -/
inductive NightState where
  | idle | claiming | exchanging | following | closed
  deriving DecidableEq, Repr

/-- Night results (R158): NONE, SUCCESS, PARTIAL, FAILED. -/
inductive NightResult where
  | none | success | part | failed
  deriving DecidableEq, Repr

/-- Decisions on a card authorisation (Table 11-9). -/
inductive Decision where
  | none | approved | approvedStandin | declined | declinedNoAnswer | declinedNoRoute
  deriving DecidableEq, Repr

/-- The fault flags (R185). -/
inductive FaultFlag where
  | heldLost | profileBad | lineSilenced | journalFull | tableUnsure | inboxLost | increaseOverdue | labelFaulted
  | interceptTouched | nightFailed | itemRefused
  deriving DecidableEq, Repr

/-! ## Item records and store line frames -/

/-- The pending part of an item record (R25): pending version, outstanding set, watched flag. -/
structure Pending where
  version     : Nat
  outstanding : StationSet
  watched     : Bool
  deriving DecidableEq, Repr

/-- An item record (R25). A CHUNK carries snapshots of these (R43). -/
structure ItemRecord where
  code     : Nat
  kind     : ItemKind
  taxClass : Fin 4
  blocked  : Bool
  overdue  : Bool
  version  : Nat
  book     : PriceState
  charge   : PriceState
  pending  : Option Pending
  holders  : StationSet
  deriving DecidableEq, Repr

/-- The contents of a beacon (R18, Table 11-3). -/
structure Beacon where
  uplinkFitted : Bool
  guestFitted  : Bool
  radioFitted  : Bool
  lanes        : Nat
  guarded      : Bool
  clockValid   : Bool
  uplinkUp     : Bool
  anyA         : Bool
  anyB         : Bool
  day          : Nat
  second       : Nat
  applied      : Nat
  overdueCount : Nat
  journalUsed  : Nat
  nightState   : NightState
  nightResult  : NightResult
  undrained    : Nat
  deriving DecidableEq, Repr

/-- A NIGHT announcement (Table 1-1): HELD, PRICES_DONE(L), TIME(day, second), CLOSED(result). -/
inductive NightMsg where
  | held
  | pricesDone (version : Nat)
  | time (day second : Nat)
  | closed (result : NightResult)
  deriving DecidableEq, Repr

/-- A NOTE (R186): the flag, its first-raised time, and whether it was still set when the NOTE was placed. -/
structure Note where
  flag     : FaultFlag
  raised   : Stamp
  stillSet : Bool
  deriving DecidableEq, Repr

/-- A JSEG (R100): the EMPTY, last-segment and last-record flags, sequence number, segment index and record bytes. -/
structure Jseg where
  empty      : Bool
  lastSeg    : Bool
  lastRecord : Bool
  seq        : Nat
  index      : Nat
  data       : List Byte
  deriving DecidableEq, Repr

/-- The status of a CHUNK (Table 11-3): records, records with the end mark, end mark alone, BUSY. -/
inductive ChunkStatus where
  | records | recordsEnd | endAlone | busy
  deriving DecidableEq, Repr

/-- A CHUNK (R43): status, records, and the server's A with the end mark. -/
structure Chunk where
  status  : ChunkStatus
  records : List ItemRecord
  applied : Nat
  deriving DecidableEq, Repr

/-- What a frame of each kind of Table 1-1 carries (Table 11-3). -/
inductive Payload where
  | authq (origin : Station) (lane : Lane) (basket amount : Nat)
  | autha (lane : Lane) (basket : Nat) (decision : Decision)
  | claim
  | night (m : NightMsg)
  | note (n : Note)
  | price (p : PriceSet)
  | shown (item version : Nat) (station : Station)
  | hold (item : Nat) (station : Station) (join : Bool)
  | beacon (b : Beacon)
  | pull
  | jpull (count : Nat)
  | jrel (seq : Nat)
  | jseg (g : Jseg)
  | chunk (c : Chunk)
  deriving DecidableEq, Repr

/-- A frame this station sends: destination (`none` is ALL) and payload. The sender is this station and the class follows
from the payload (Table 1-1). `applied` is the model's own: an own SHOWN or HOLD that this station's table has already
applied (R36, R37). -/
structure Frame where
  dest    : Option Station
  payload : Payload
  applied : Bool
  deriving DecidableEq, Repr

/-- The blocks that own send slots (Table 1-2). -/
inductive Owner where
  | auth | night | note | item | beacon | pull | journal | jseg | chunk
  deriving DecidableEq, Repr

/-- A frame its owner keeps for want of a FREE slot (R5). Two kinds are completed only when placed: a NOTE takes its
still-set flag (R186) and the serving's next CHUNK its snapshot (R43) at that moment. -/
inductive Draft where
  | frame (f : Frame)
  | note (flag : FaultFlag) (raised : Stamp) (resend : Bool)
  | nextChunk
  deriving DecidableEq, Repr

/-- What a slot that is not FREE is doing (R5). -/
inductive SlotPhase where
  | waiting | sending
  deriving DecidableEq, Repr

/-- A send slot (R5): FREE, or holding one frame, an unheard count and a withdraw mark. -/
inductive Slot where
  | free
  | held (phase : SlotPhase) (frame : Frame) (unheard : Nat) (withdrawn : Bool)
  deriving DecidableEq, Repr

/-- An accepted frame in an inbox (R16): its sender and what it carries. -/
structure Received where
  sender  : Station
  payload : Payload
  deriving DecidableEq, Repr

/-- The Line Port (chapter 1). The standing follows from the counts (R12) and has no field of its own. -/
structure LinePort where
  slots            : Vector Slot 11
  /-- Frames their owners keep, in the order produced (R5). -/
  kept             : List Draft
  sfc              : Nat
  hfc              : Nat
  /-- The next line rest is let pass (R12). -/
  letPass          : Bool
  quietCount       : Nat
  alone            : Bool
  itemInbox        : List Received
  journalInbox     : List Received
  nightInbox       : List Received
  authInbox        : List Received
  repairAfterDrain : Bool
  /-- Running time at which the next beacon is due; none before LISTEN (R19). -/
  nextBeacon       : Option Nat
  /-- A beacon fell due while slot 6 was SENDING (R19). -/
  beaconKept       : Bool
  deriving DecidableEq, Repr

/-! ## Roster -/

/-- The states of an entry that has been heard (R20). -/
inductive Presence where
  | present | quiet | absent
  deriving DecidableEq, Repr

/-- A peer entry that has been heard; an UNKNOWN entry is `none` (R20). -/
structure PeerEntry where
  presence  : Presence
  lastHeard : Nat
  beacon    : Beacon
  deriving DecidableEq, Repr

/-- The Roster (section 1.7). -/
structure Roster where
  entries  : Vector (Option PeerEntry) 8
  /-- The gateway as last derived (R22). -/
  gateway  : Option Station
  /-- The journal pressure as last worked out (R23). -/
  pressure : Nat
  deriving DecidableEq, Repr

/-! ## Item Table -/

/-- An entry of the watch list (R38). -/
structure WatchEntry where
  code     : Nat
  version  : Nat
  deadline : Nat
  deriving DecidableEq, Repr

/-- The serving side while SERVING (R43): the requester and the last code taken, 0 before the lowest. -/
structure Serving where
  requester : Station
  cursor    : Nat
  deriving DecidableEq, Repr

/-- The requesting side's two working states (R45). -/
inductive PullPhase where
  | requested | receiving
  deriving DecidableEq, Repr

/-- A table pull under way (R45 to R49). `deadline` is the pull timer once it runs; `full` records an overflow of the
touched list with the repeat flag set; `unsure` a record not created for lack of room. -/
structure Pull where
  phase     : PullPhase
  target    : Station
  tried     : StationSet
  repeated  : Bool
  touched   : List Nat
  full      : Bool
  delivered : List Nat
  unsure    : Bool
  deadline  : Option Nat
  deriving DecidableEq, Repr

/-- A PRICES_DONE waiting for the frames that stood in the Item inbox before it (R171). -/
structure DoneWait where
  version : Nat
  frames  : Nat
  deriving DecidableEq, Repr

/-- The Item Table (chapter 2). The unwatched and overdue counts are read off the records (R38, R39). -/
structure ItemTable where
  records    : List ItemRecord
  /-- The applied-through version A (R40). -/
  applied    : Nat
  /-- Versions above A marked seen, ascending (R40). -/
  seen       : List Nat
  leads      : Vector Nat 8
  watch      : List WatchEntry
  /-- The deferred list: own SHOWN and HOLD payloads, oldest first (R37). -/
  deferred   : List Payload
  repairMark : Bool
  serving    : Option Serving
  pull       : Option Pull
  doneWaits  : List DoneWait
  deriving DecidableEq, Repr

/-! ## Lanes and baskets -/

inductive LaneMode where
  | till | service
  deriving DecidableEq, Repr

/-- Result codes of lane answers (Table 11-9). -/
inductive ResultCode where
  | ok | busy | check | unknownRequest | mode | notReady | protection | state | unknownItem | blocked | kind | limit
  | noLine | journalFull | cancelled | approved | approvedStandin | declined | declinedNoAnswer | noLabel | tableFull
  deriving DecidableEq, Repr

/-- Basket states (R72). -/
inductive BasketState where
  | closed | opened | totalled | tendering | authWait | paid
  deriving DecidableEq, Repr

/-- Label states (R105). -/
inductive LabelState where
  | current | queued | awaiting | retryWait | faulted
  deriving DecidableEq, Repr

/-- The four tax contents of a TOTAL (R63). -/
structure TaxContents where
  c0 : Nat
  c1 : Nat
  c2 : Nat
  c3 : Nat
  deriving DecidableEq, Repr

/-- A line of a basket (R53). -/
structure Line where
  number   : Nat
  item     : Nat
  kind     : ItemKind
  /-- Count or grams; the multibuy count on a promotion line. -/
  quantity : Nat
  headline : Nat
  amount   : Int
  taxClass : Fin 4
  voided   : Bool
  promo    : Bool
  deriving DecidableEq, Repr

/-- An item lock (R54). -/
structure Lock where
  item     : Nat
  kind     : ItemKind
  taxClass : Fin 4
  state    : PriceState
  headline : Nat
  deriving DecidableEq, Repr

/-- A tender (R72); a CARD tender's result is APPROVED or, with `standin`, APPROVED_STANDIN. -/
inductive Tender where
  | cash (amount : Nat)
  | card (amount : Nat) (standin : Bool)
  deriving DecidableEq, Repr

/-- The volatile basket context (R72). -/
structure Basket where
  state   : BasketState
  lines   : List Line
  locks   : List Lock
  total   : Int
  tax     : Option TaxContents
  tenders : List Tender
  change  : Option Int
  standin : Bool
  deriving DecidableEq, Repr

/-- The contents of an accepted answer (Table 11-8). -/
inductive Contents where
  | none
  | lines (total : Int) (added : List Line)
  | voids (total : Int) (numbers : List Nat)
  | item (weighed pending blocked : Bool) (chargeHeadline bookHeadline : Nat)
  | total (total : Int)
  | totals (total : Int) (tax : TaxContents)
  | remaining (amount : Int)
  | change (amount : Int)
  | sequence (number : Nat)
  | index (index : Nat)
  | count (count : Nat)
  | label (index radioId item shownVersion shownHeadline : Nat) (shownBlocked targetBlocked : Bool)
      (state : LabelState) (attempts notBefore battery : Nat) (contact : Stamp) (targetVersion : Nat)
  | flags (before after : List FaultFlag)
  deriving DecidableEq, Repr

/-- An answer frame (section 11.4): the number of the request it answers, result, basket state, basket number (0 while
CLOSED) and contents. -/
structure Answer where
  number   : Nat
  code     : ResultCode
  state    : BasketState
  basket   : Nat
  contents : Contents
  deriving DecidableEq, Repr

/-- Route of an auth entry that stays open (R79). An entry of route NONE ends within its CARD request. -/
inductive Route where
  | line | internal
  deriving DecidableEq, Repr

/-- Where a LINE entry's AUTHQ is (R79, R82). -/
inductive AuthqState where
  | produced | done
  deriving DecidableEq, Repr

/-- The auth entry of a lane (R79); the lane is its place in the State. -/
structure AuthEntry where
  basket : Nat
  amount : Nat
  start  : Nat
  route  : Route
  authq  : AuthqState
  deriving DecidableEq, Repr

/-- An entry of a late list (R86). -/
structure LateEntry where
  basket   : Nat
  amount   : Nat
  decision : Decision
  joined   : Nat
  deriving DecidableEq, Repr

/-- A lane context (R67). Only CARD stays in flight after its step (R69), so the request in flight is its number. -/
structure LaneContext where
  inFlight : Option Nat
  answers  : List Answer
  basket   : Basket
  auth     : Option AuthEntry
  late     : List LateEntry
  /-- A break that caused a lane reset has not ended (R88). -/
  broken   : Bool
  deriving DecidableEq, Repr

/-! ## Held memory: journal, markers, label table, lane basket numbers (R178) -/

/-- Types of basket records (R89). -/
inductive RecordType where
  | sale | cancelled | lostByReset
  deriving DecidableEq, Repr

/-- A basket record (R92). `tax` is present in SALE only. -/
structure BasketRecord where
  type    : RecordType
  station : Station
  lane    : Lane
  basket  : Nat
  stamp   : Stamp
  standin : Bool
  total   : Int
  tax     : Option TaxContents
  lines   : List Line
  tenders : List Tender
  change  : Option Int
  deriving DecidableEq, Repr

/-- What a journal record holds (R92). -/
inductive RecordContent where
  | basket (r : BasketRecord)
  | lostByRestart (station : Station) (lane : Lane) (basket : Nat) (stamp : Stamp)
  | lateAuth (station : Station) (lane : Lane) (basket : Nat) (stamp : Stamp) (amount : Nat) (taken late : Decision)
  deriving DecidableEq, Repr

/-- A journal record: sequence number, contents, HELD or IN_FLIGHT (R89). -/
structure JournalRecord where
  seq      : Nat
  content  : RecordContent
  inFlight : Bool
  deriving DecidableEq, Repr

/-- A label record (R105). -/
structure Label where
  index         : Nat
  radioId       : Nat
  item          : Nat
  shownVersion  : Nat
  shownHeadline : Nat
  shownBlocked  : Bool
  state         : LabelState
  attempts      : Nat
  notBefore     : Option Nat
  battery       : Fin 4
  contact       : Option Stamp
  deriving DecidableEq, Repr

/-- Held memory, the parts a warm start keeps (R178). Used cells are read off the records (R89). -/
structure HeldMemory where
  /-- Journal records, oldest first (R89). -/
  records : List JournalRecord
  nextSeq : Nat
  /-- Open-basket markers: clear, or set with the basket number (R98). -/
  markers : Vector (Option Nat) 4
  /-- The label table in index order (R105). -/
  labels  : List Label
  /-- The lane basket numbers (R72). -/
  baskets : Vector Nat 4
  deriving DecidableEq, Repr

/-! ## Journal, owner side -/

/-- Who pulls this station's journal (R99, R103). -/
inductive Puller where
  | self
  | peer (n : Station)
  deriving DecidableEq, Repr

/-- The batch the Journal holds (section 5.4): puller, send cursor (record and segment; none once done or stopped),
sent-through number. -/
structure OwnerBatch where
  puller      : Puller
  cursor      : Option (Nat × Nat)
  sentThrough : Option Nat
  deriving DecidableEq, Repr

/-! ## Label Radio Controller, volatile part -/

/-- A radio exchange under way (R110, R114). -/
structure Exchange where
  index    : Nat
  radioId  : Nat
  headline : Nat
  version  : Nat
  blocked  : Bool
  deadline : Nat
  changed  : Bool
  void     : Bool
  deriving DecidableEq, Repr

structure LabelUnit where
  /-- The update queue: label indices, head first (R107). -/
  queue    : List Nat
  exchange : Option Exchange
  /-- Held until READY (R108). -/
  held     : Bool
  deriving DecidableEq, Repr

/-! ## Uplink Router -/

/-- An OFFICE_AUTH in the AUTH queue (R134). -/
structure AuthItem where
  tag    : Nat
  origin : Station
  lane   : Lane
  basket : Nat
  amount : Nat
  deriving DecidableEq, Repr

/-- One item of an office message: its kind code, part index, last-part flag and its bytes of the message's fields
(R127, R190). -/
structure Part where
  kind  : Nat
  index : Nat
  last  : Bool
  data  : List Byte
  deriving DecidableEq, Repr

/-- An outbound guest packet in the GUEST queue, naming its flow (R128). -/
structure GuestItem where
  flow : Nat
  data : List Byte
  deriving DecidableEq, Repr

/-- An AUTH entry of the flow table (R133). -/
structure AuthFlow where
  tag    : Nat
  origin : Station
  lane   : Lane
  basket : Nat
  amount : Nat
  made   : Nat
  sent   : Option Nat
  deriving DecidableEq, Repr

/-- A GUEST entry of the flow table (R138). -/
structure GuestFlow where
  index    : Nat
  slot     : Fin 64
  port     : Nat
  dest     : Nat
  destPort : Nat
  lastUsed : Nat
  deriving DecidableEq, Repr

/-- An OFFICE_NOTE (R142). -/
structure OfficeNote where
  station : Station
  flag    : FaultFlag
  raised  : Stamp
  store   : Nat
  deriving DecidableEq, Repr

/-- The three shared classes in rotation order (R130). -/
inductive SharedClass where
  | night | guest | service
  deriving DecidableEq, Repr

/-- The Uplink Router (chapter 7). The gateway role is held while the Roster's gateway is this station (R125). -/
structure Router where
  linkUp         : Bool
  /-- Running time of the carrier unit's last frame; none while its presence is not counted (R124). -/
  carrierHeard   : Option Nat
  /-- The carrier link is free (R131). -/
  linkFree       : Bool
  authQueue      : List AuthItem
  nightQueue     : List Part
  guestQueue     : List GuestItem
  serviceQueue   : List Part
  nightDeficit   : Nat
  guestDeficit   : Nat
  serviceDeficit : Nat
  current        : SharedClass
  turnBegun      : Bool
  authFlows      : List AuthFlow
  guestFlows     : List GuestFlow
  backlog        : List OfficeNote
  unknownAnswers : Nat
  guestDropped   : Nat
  notesLost      : Nat
  malformed      : Nat
  deriving DecidableEq, Repr

/-! ## Guest Unit -/

/-- States of a guest table entry (R145). -/
inductive GuestState where
  | free | admitted | exhausted | ended | evicted
  deriving DecidableEq, Repr

/-- A guest table entry (R145). -/
structure GuestEntry where
  address    : Option Nat
  state      : GuestState
  sessionEnd : Option Nat
  bucket     : Nat
  allowance  : Nat
  strikes    : Nat
  ended      : Option Nat
  deriving DecidableEq, Repr

/-- Reasons of REFUSE (R146, R190). -/
inductive RefuseReason where
  | closed | noUplink | paused | evicted | allowance | full
  deriving DecidableEq, Repr

structure GuestUnit where
  table    : Vector GuestEntry 64
  touched  : Vector Bool 8
  refused  : Nat
  policed  : Nat
  /-- Running time of the access point's last frame; none while its link is not counted (R154). -/
  apHeard  : Option Nat
  /-- Running time of the next bucket refill (R150). -/
  refillAt : Nat
  deriving DecidableEq, Repr

/-! ## Night Exchange -/

/-- Exchange stages (R163). -/
inductive Stage where
  | connect | drain | prices | time | report
  deriving DecidableEq, Repr

/-- Drain outcomes (Table 11-9). -/
inductive DrainOutcome where
  | none | empty | givenUp | absent | cut
  deriving DecidableEq, Repr

/-- One station's drain record (R164). -/
structure DrainEntry where
  outcome : DrainOutcome
  records : Nat
  cells   : Nat
  deriving DecidableEq, Repr

/-- A complete record of a collection: its sequence number and bytes (R165). -/
structure Collected where
  seq  : Nat
  data : List Byte
  deriving DecidableEq, Repr

/-- A record being collected (R165). -/
structure PartRecord where
  seq  : Nat
  next : Nat
  data : List Byte
  deriving DecidableEq, Repr

/-- Where a batch stands: waiting for the carrier link; its JPULL produced; collecting until the segment wait's deadline;
JPUTs waiting for places; awaiting JTAKEN until the taken wait's deadline (R165, R166). -/
inductive BatchPhase where
  | waitLink
  | requested
  | collecting (deadline : Nat)
  | putting
  | awaiting (deadline : Nat)
  deriving DecidableEq, Repr

/-- The journal batch in hand (R158). `taken` 0 means that head office has taken none; `broken` a broken collection (R165);
`linkLost` that the carrier link was DOWN during the batch (R166); `targetLost` that the target's entry became ABSENT
during it (R164). -/
structure Batch where
  target     : Station
  phase      : BatchPhase
  collected  : List Collected
  part       : Option PartRecord
  broken     : Bool
  taken      : Nat
  linkLost   : Bool
  targetLost : Bool
  deriving DecidableEq, Repr

/-- A message the Night Exchange keeps for want of places in the NIGHT queue (R129). -/
inductive NightItem where
  | jput (station : Station) (seq : Nat) (data : List Byte)
  | batchReq (applied : Nat)
  deriving DecidableEq, Repr

/-- A NIGHT_REPORT (R169, Table 11-12). -/
structure Report where
  store        : Nat
  day          : Nat
  result       : NightResult
  drain        : List DrainEntry
  refusedCount : Nat
  refused      : List Nat
  overdueCount : Nat
  overdue      : List Nat
  unwatched    : Nat
  faulted      : Nat
  lowBattery   : Nat
  unknown      : Nat
  dropped      : Nat
  notesLost    : Nat
  malformed    : Nat
  guestRefused : Nat
  policed      : Nat
  touched      : List Bool
  deriving DecidableEq, Repr

/-- A JREL to a peer whose effect there is not known (R101, R164, R166): its target, the number it names, the records that it
names there, each as its number and its cells, and whether it has been CARRIED. -/
structure Release where
  station : Station
  seq     : Nat
  records : List (Nat × Nat)
  carried : Bool
  deriving DecidableEq, Repr

/-- The Night Exchange (chapter 9). -/
structure Night where
  state         : NightState
  stage         : Option Stage
  result        : NightResult
  exchange      : Option Station
  d1            : Bool
  drainOutcome  : Option Bool
  pricesOutcome : Option Bool
  timeOutcome   : Option Bool
  drain         : Vector DrainEntry 8
  /-- The station the walk of a drain stands at (R164, R176). -/
  walk          : Option Station
  batch         : Option Batch
  attempts      : Nat
  refused       : List Nat
  refusedCount  : Nat
  undrained     : Nat
  dayDrain      : Bool
  restUntil     : Option Nat
  claimUntil    : Option Nat
  stallUntil    : Option Nat
  timeUntil     : Option Nat
  /-- BATCH_REQ has been placed once more (R167). -/
  askedAgain    : Bool
  /-- The last L taken in this stage (R167). -/
  newest        : Option Nat
  /-- How PRICES will end, once its end is settled (R167). -/
  pricesEnding  : Option Bool
  /-- NIGHT(PRICES_DONE) has been produced and is not yet placed (R167). -/
  donePending   : Bool
  /-- An OFFICE_TIME has been taken in this exchange (R168). -/
  timeTaken     : Bool
  /-- Messages that wait for places in the NIGHT queue, in the order produced (R129). -/
  waiting       : List NightItem
  /-- NIGHT_REPORTs that wait for places in the SERVICE queue, in the order made (R129, R169). -/
  reports       : List Report
  /-- JRELs to peers whose effect there is not known (R101, R164). -/
  releases      : List Release
  deriving DecidableEq, Repr

/-! ## Clock, Fault Record, Start Control -/

/-- The Clock (R182). Running time `now` is a 48-bit count. `sub` is the model's own: milliseconds counted towards the next second, 1,000 when a day roll is due. -/
structure Clock where
  now    : Nat
  sub    : Nat
  valid  : Bool
  day    : Nat
  second : Nat
  deriving DecidableEq, Repr

/-- A fault flag: its first-raised time while set, and the time kept with its unsent mark while that is set (R185, R186). -/
structure FlagEntry where
  raised : Option Stamp
  unsent : Option Stamp
  deriving DecidableEq, Repr

structure FaultRecord where
  flags       : Vector FlagEntry 11
  /-- A dropped note holds JOURNAL_FULL set (R97, R185). -/
  journalHold : Bool
  deriving DecidableEq, Repr

/-- Start states (section 10.3). -/
inductive StartPhase where
  | profile | listen | pull | ready
  deriving DecidableEq, Repr

/-- An intercept range (R149). -/
structure Range where
  base : Nat
  size : Nat
  deriving DecidableEq, Repr

/-- The profile's fields (R179). -/
structure Profile where
  store       : Nat
  w0          : Nat
  d1          : Nat
  d2          : Nat
  openMinute  : Nat
  closeMinute : Nat
  floorLimit  : Nat
  taxRates    : Vector Nat 4
  modes       : Vector LaneMode 4
  ranges      : Vector Range 8
  deriving DecidableEq, Repr

structure StartControl where
  /-- Power is on (R178, POWER_LOSS). -/
  powered     : Bool
  phase       : StartPhase
  straps      : Straps
  profile     : Profile
  /-- The profile read was bad (R179). -/
  profileBad  : Bool
  listenUntil : Option Nat
  deriving DecidableEq, Repr

/-! ## What a command puts out on the ports -/

/-- Messages to the access point (section 8.1, R190). -/
inductive ApMessage where
  | admission (address : Nat)
  | refuse (address : Nat) (reason : RefuseReason)
  | drop (address : Nat)
  | packet (address port source sourcePort : Nat) (data : List Byte)
  deriving DecidableEq, Repr

/-- Items handed to the carrier unit (R131). -/
inductive CarrierItem where
  | auth (a : AuthItem)
  | office (p : Part)
  | guest (port dest destPort : Nat) (data : List Byte)
  deriving DecidableEq, Repr

/-- What the station drives or sends during a command: the windows of a frame it hears (R3), the frame it begins (R6), a
label UPDATE (R110), an item to the carrier unit (R131), a message to the access point. -/
inductive Output where
  | acknowledge
  | faultMark
  | attempt (f : Frame)
  | labelUpdate (radioId headline version : Nat) (blocked : Bool)
  | carrier (item : CarrierItem)
  | accessPoint (m : ApMessage)
  deriving DecidableEq, Repr

/-! ## The state -/

/-- The whole machine. `out` and `pending` are the model's own: what the latest command put out on the ports, in order, and
the commands that wait, first in, first out. -/
structure State where
  line    : LinePort
  roster  : Roster
  items   : ItemTable
  lanes   : Vector LaneContext 4
  held    : HeldMemory
  journal : Option OwnerBatch
  labels  : LabelUnit
  router  : Router
  guest   : GuestUnit
  night   : Night
  clock   : Clock
  faults  : FaultRecord
  start   : StartControl
  out     : List Output
  pending : List Instr
  deriving DecidableEq, Repr

/-- Why the machine stops with a fault. No command of this block has such an end: the manual gives every one of them an
effect in every state, so the type has no constructor (safe: nothing can raise it). -/
inductive Fault where
  deriving DecidableEq, Repr

/-- Why the machine gives a command no meaning. -/
inductive Refusal where
  /-- The command of this mnemonic has no meaning yet; raised by its arm of `exec` and nowhere else. Safe: nothing is claimed
  of a run that stops. -/
  | notModelled (mnemonic : String)
  deriving DecidableEq, Repr

/-! ## The state after reset -/

/-- The profile's fixed values while it is bad (R179); also what stands before the profile has been read
(DESIGN CHOICE, notes/assumptions/4.md). -/
def Profile.fixed : Profile where
  store := 0
  w0 := 60
  d1 := 90
  d2 := 240
  openMinute := 0
  closeMinute := 0
  floorLimit := 0
  taxRates := Vector.replicate 4 0
  modes := Vector.replicate 4 .till
  ranges := Vector.replicate 8 { base := 0, size := 0 }

/-- A closed, empty basket (R72). -/
def Basket.empty : Basket where
  state := .closed
  lines := []
  locks := []
  total := 0
  tax := none
  tenders := []
  change := none
  standin := false

/-- A lane context after a start (R67). -/
def LaneContext.initial : LaneContext where
  inFlight := none
  answers := []
  basket := .empty
  auth := none
  late := []
  broken := false

/-- Held memory at a cold start (R178, R104). -/
def HeldMemory.empty : HeldMemory where
  records := []
  nextSeq := 1
  markers := Vector.replicate 4 none
  labels := []
  baskets := Vector.replicate 4 0

/-- The Line Port after a start (R5, R10, R11, R16, R17, R19). -/
def LinePort.initial : LinePort where
  slots := Vector.replicate 11 .free
  kept := []
  sfc := 0
  hfc := 0
  letPass := false
  quietCount := 0
  alone := true
  itemInbox := []
  journalInbox := []
  nightInbox := []
  authInbox := []
  repairAfterDrain := false
  nextBeacon := none
  beaconKept := false

/-- The Item Table after a start (section 2.8). -/
def ItemTable.initial : ItemTable where
  records := []
  applied := 0
  seen := []
  leads := Vector.replicate 8 0
  watch := []
  deferred := []
  repairMark := false
  serving := none
  pull := none
  doneWaits := []

/-- The Uplink Router after a start (Table 7-1). -/
def Router.initial : Router where
  linkUp := false
  carrierHeard := none
  linkFree := true
  authQueue := []
  nightQueue := []
  guestQueue := []
  serviceQueue := []
  nightDeficit := 0
  guestDeficit := 0
  serviceDeficit := 0
  current := .night
  turnBegun := false
  authFlows := []
  guestFlows := []
  backlog := []
  unknownAnswers := 0
  guestDropped := 0
  notesLost := 0
  malformed := 0

/-- A FREE guest entry (R145). -/
def GuestEntry.vacant : GuestEntry where
  address := none
  state := .free
  sessionEnd := none
  bucket := 0
  allowance := 0
  strikes := 0
  ended := none

/-- The Guest Unit after a start (R157). -/
def GuestUnit.initial : GuestUnit where
  table := Vector.replicate 64 .vacant
  touched := Vector.replicate 8 false
  refused := 0
  policed := 0
  apHeard := none
  refillAt := 4

/-- An empty drain record entry (R158). -/
def DrainEntry.initial : DrainEntry where
  outcome := .none
  records := 0
  cells := 0

/-- The Night Exchange after a start (R158). -/
def Night.initial : Night where
  state := .idle
  stage := none
  result := .none
  exchange := none
  d1 := false
  drainOutcome := none
  pricesOutcome := none
  timeOutcome := none
  drain := Vector.replicate 8 .initial
  walk := none
  batch := none
  attempts := 0
  refused := []
  refusedCount := 0
  undrained := 0
  dayDrain := false
  restUntil := none
  claimUntil := none
  stallUntil := none
  timeUntil := none
  askedAgain := false
  newest := none
  pricesEnding := none
  donePending := false
  timeTaken := false
  waiting := []
  reports := []
  releases := []

/-- Every volatile part at its initial value, with the given straps and held memory, in start state PROFILE with running
time 0 (R178, R180, section 3.8 of 00_scope.md). -/
def State.fresh (straps : Straps) (held : HeldMemory) : State where
  line := .initial
  roster := { entries := Vector.replicate 8 none, gateway := none, pressure := 0 }
  items := .initial
  lanes := Vector.replicate 4 .initial
  held := held
  journal := none
  labels := { queue := [], exchange := none, held := true }
  router := .initial
  guest := .initial
  night := .initial
  clock := { now := 0, sub := 0, valid := false, day := 0, second := 0 }
  faults := { flags := Vector.replicate 11 { raised := none, unsent := none }, journalHold := false }
  start :=
    { powered := true, phase := .profile, straps := straps, profile := .fixed, profileBad := false, listenUntil := none }
  out := []
  pending := []

/-- The straps of `State.reset`: station 0, everything fitted, four lanes. The manual leaves the pins to the board
(DESIGN CHOICE, notes/assumptions/2.md); POWER_ON and RESET_PIN read them from their operand. -/
def defaultStraps : Straps where
  station := 0
  uplink := true
  guestPort := true
  labelRadio := true
  lanes := 4

/-- The machine right after a cold start (R178): every part at its initial value, HELD_LOST raised with the invalid clock's
stamp, and its NOTE waiting in slot 3 (R185, R186). -/
def State.reset : State :=
  let s := State.fresh defaultStraps .empty
  let stamp : Stamp := { valid := false, day := 0, second := 0 }
  let note : Frame :=
    { dest := none, payload := .note { flag := .heldLost, raised := stamp, stillSet := true }, applied := false }
  { s with
    line := { s.line with slots := s.line.slots.set 3 (.held .waiting note 0 false) }
    faults := { s.faults with flags := s.faults.flags.set 0 { raised := some stamp, unsent := none } } }

end Sys2Proof.Machine
end

