-- ==== Sys2Proof/Machine/Bytes.lean ====
section
/-! DEFINITION. Byte strings: multi-byte numbers high byte first, the CRC-16 of R188, the lane checksum of R189, and
fields packed bit by bit (Table 11-5). -/

namespace Sys2Proof.Machine

/-- The `n` bytes of a number, high byte first (chapter 11); higher bits are cut off. -/
def beBytes : Nat → Nat → List Byte
  | 0, _ => []
  | n + 1, k => BitVec.ofNat 8 (k / 256 ^ n) :: beBytes n k

/-- The number some bytes spell, high byte first. -/
def beNat (bs : List Byte) : Nat := bs.foldl (fun a b => a * 256 + b.toNat) 0

/-- The number in `n` bytes from byte `i` on. -/
def field (bs : List Byte) (i n : Nat) : Nat := beNat ((bs.drop i).take n)

/-- The four bytes of a signed amount in two's complement (chapter 11). -/
def beInt4 (i : Int) : List Byte := beBytes 4 (i % 2 ^ 32).toNat

/-- One bit of the CRC-16 with polynomial x^16 + x^12 + x^5 + 1 (R188). -/
def crcBit (c : BitVec 16) : BitVec 16 := if c.msb then (c <<< 1) ^^^ 0x1021#16 else c <<< 1

/-- One byte of the CRC-16, most significant bit first (R188). -/
def crcByte (c : BitVec 16) (b : Byte) : BitVec 16 :=
  crcBit (crcBit (crcBit (crcBit (crcBit (crcBit (crcBit (crcBit (c ^^^ (b.setWidth 16 <<< 8)))))))))

/-- The check sequence of R188: register preset to hex FFFF, result not inverted. -/
def crc16 (bs : List Byte) : BitVec 16 := bs.foldl crcByte 0xFFFF#16

/-- Bytes followed by their check sequence, high byte first (R188). -/
def withCrc (bs : List Byte) : List Byte := bs ++ beBytes 2 (crc16 bs).toNat

/-- Whether bytes that end in a check sequence pass it: the same calculation over all of them gives 0 (R188). -/
def crcPasses (bs : List Byte) : Bool := crc16 bs == 0#16

/-- The sum of bytes modulo 256. -/
def byteSum (bs : List Byte) : Byte := bs.foldl (· + ·) 0#8

/-- The lane checksum: it makes the sum of the covered bytes and itself 0 modulo 256 (R189). -/
def laneChecksum (bs : List Byte) : Byte := 0#8 - byteSum bs

/-- Fields packed first in the most significant bits (section 11.3): each is a width in bits and a value. -/
def packBits (fields : List (Nat × Nat)) : Nat := fields.foldl (fun a f => a * 2 ^ f.1 + f.2 % 2 ^ f.1) 0

/-- A flag as 1 or 0 (chapter 11). -/
def bit (b : Bool) : Nat := if b then 1 else 0

/-- A flag byte (chapter 11). -/
def flagByte (b : Bool) : List Byte := [if b then 1#8 else 0#8]

/-- `n` zero bytes. -/
def zeros (n : Nat) : List Byte := List.replicate n 0#8

/-- Byte `i`, 0 beyond the end. -/
def byteAt (bs : List Byte) (i : Nat) : Byte := bs.getD i 0#8

/-- A byte that holds a station number (Table 11-3); none for 8 and above. -/
def stationOf (b : Byte) : Option Station := if h : b.toNat < 8 then some ⟨b.toNat, h⟩ else none

/-- A byte that holds a lane number; none for 4 and above. -/
def laneOf (b : Byte) : Option Lane := if h : b.toNat < 4 then some ⟨b.toNat, h⟩ else none

/-- The two low bits of a byte, a tax class (Table 11-3). -/
def taxClassOf (b : Byte) : Fin 4 := ⟨b.toNat % 4, Nat.mod_lt _ (by decide)⟩

/-- A flag byte read back: 1 set, 0 clear, none for any other value. -/
def flagOf (b : Byte) : Option Bool := if b == 1#8 then some true else if b == 0#8 then some false else none

/-- Cut a byte string into pieces of `n` bytes, the last one shorter; `fuel` bounds the number of pieces. -/
def pieces (n : Nat) : Nat → List Byte → List (List Byte)
  | 0, _ => []
  | fuel + 1, bs => if bs.length ≤ n then [bs] else bs.take n :: pieces n fuel (bs.drop n)

end Sys2Proof.Machine
end

