-- ==== Sys2Proof/Machine/Formats.lean ====
section
/-! DEFINITION. The layouts of chapter 11 that are not tied to one port's commands: code tables (Table 11-9), store line
payloads (Tables 11-2 to 11-4) read and written, journal cells (Tables 11-5, 11-6), the profile (Table 11-10) and the night
report (Table 11-12). -/

namespace Sys2Proof.Machine

/-! ## Codes (Table 11-9) -/

def ResultCode.toNat : ResultCode → Nat
  | .ok => 0 | .busy => 1 | .check => 2 | .unknownRequest => 3 | .mode => 4 | .notReady => 5 | .protection => 6
  | .state => 7 | .unknownItem => 8 | .blocked => 9 | .kind => 10 | .limit => 11 | .noLine => 12 | .journalFull => 13
  | .cancelled => 14 | .approved => 15 | .approvedStandin => 16 | .declined => 17 | .declinedNoAnswer => 18
  | .noLabel => 19 | .tableFull => 20

def BasketState.toNat : BasketState → Nat
  | .closed => 0 | .opened => 1 | .totalled => 2 | .tendering => 3 | .authWait => 4 | .paid => 5

def Decision.toNat : Decision → Nat
  | .none => 0 | .approved => 1 | .approvedStandin => 2 | .declined => 3 | .declinedNoAnswer => 4 | .declinedNoRoute => 5

def LabelState.toNat : LabelState → Nat
  | .current => 0 | .queued => 1 | .awaiting => 2 | .retryWait => 3 | .faulted => 4

def NightState.toNat : NightState → Nat
  | .idle => 0 | .claiming => 1 | .exchanging => 2 | .following => 3 | .closed => 4

def NightState.ofCode : Nat → Option NightState
  | 0 => some .idle | 1 => some .claiming | 2 => some .exchanging | 3 => some .following | 4 => some .closed | _ => none

def NightResult.toNat : NightResult → Nat
  | .none => 0 | .success => 1 | .part => 2 | .failed => 3

def NightResult.ofCode : Nat → Option NightResult
  | 0 => some .none | 1 => some .success | 2 => some .part | 3 => some .failed | _ => none

def DrainOutcome.toNat : DrainOutcome → Nat
  | .none => 0 | .empty => 1 | .givenUp => 2 | .absent => 3 | .cut => 4

/-- Fault flag codes, which also index the flags (Table 11-9). -/
def FaultFlag.code : FaultFlag → Fin 11
  | .heldLost => 0 | .profileBad => 1 | .lineSilenced => 2 | .journalFull => 3 | .tableUnsure => 4 | .inboxLost => 5
  | .increaseOverdue => 6 | .labelFaulted => 7 | .interceptTouched => 8 | .nightFailed => 9 | .itemRefused => 10

/-- All flags in code order. -/
def allFlags : List FaultFlag :=
  [.heldLost, .profileBad, .lineSilenced, .journalFull, .tableUnsure, .inboxLost, .increaseOverdue, .labelFaulted,
    .interceptTouched, .nightFailed, .itemRefused]

def FaultFlag.ofCode (n : Nat) : Option FaultFlag := allFlags[n]?

/-- The class A flags (R185). -/
def FaultFlag.classA : FaultFlag → Bool
  | .heldLost => true
  | .profileBad => true
  | .lineSilenced => true
  | .journalFull => true
  | _ => false

def RefuseReason.toNat : RefuseReason → Nat
  | .closed => 1 | .noUplink => 2 | .paused => 3 | .evicted => 4 | .allowance => 5 | .full => 6

/-! ## Price states and item records (Table 11-4) -/

def priceStateBytes (p : PriceState) : List Byte :=
  beBytes 3 p.price ++ beBytes 2 p.markdown ++
    match p.multibuy with
    | none => zeros 4
    | some m => beBytes 1 m.count ++ beBytes 3 m.group

/-- A price state from nine bytes; a count of 0 stands for no multibuy. -/
def priceStateOf (bs : List Byte) : PriceState where
  price := field bs 0 3
  markdown := field bs 3 2
  multibuy := if field bs 5 1 = 0 then none else some { count := field bs 5 1, group := field bs 6 3 }

def priceSetBytes (p : PriceSet) : List Byte :=
  beBytes 4 p.version ++ beBytes 4 p.code ++
    beBytes 1 (bit p.body.isNone * 128 + bit (p.kind == .weighed) * 64 + p.taxClass.val) ++
    match p.body with
    | none => zeros 9
    | some b => priceStateBytes b

/-- A PRICE payload or the fields of a BATCH_REC (Tables 11-3, 11-11). -/
def priceSetOf (bs : List Byte) : PriceSet where
  version := field bs 0 4
  code := field bs 4 4
  kind := if (byteAt bs 8).getLsbD 6 then .weighed else .unit
  taxClass := taxClassOf (byteAt bs 8)
  body := if (byteAt bs 8).getLsbD 7 then none else some (priceStateOf ((bs.drop 9).take 9))

def ItemRecord.bytes (r : ItemRecord) : List Byte :=
  beBytes 4 r.code ++
    beBytes 1 (bit (r.kind == .weighed) * 128 + bit r.blocked * 64 + bit r.overdue * 32 + bit r.pending.isSome * 16 +
      bit (match r.pending with | none => false | some p => p.watched) * 8 + r.taxClass.val) ++
    beBytes 4 r.version ++ priceStateBytes r.book ++ priceStateBytes r.charge ++
    (match r.pending with
      | none => zeros 5
      | some p => beBytes 4 p.version ++ [p.outstanding]) ++
    [r.holders]

/-- A CHUNK record from 33 bytes; the pending part's absence is taken from bit 4 alone (Table 11-4, its note). -/
def ItemRecord.ofBytes (bs : List Byte) : ItemRecord where
  code := field bs 0 4
  kind := if (byteAt bs 4).getLsbD 7 then .weighed else .unit
  taxClass := taxClassOf (byteAt bs 4)
  blocked := (byteAt bs 4).getLsbD 6
  overdue := (byteAt bs 4).getLsbD 5
  version := field bs 5 4
  book := priceStateOf ((bs.drop 9).take 9)
  charge := priceStateOf ((bs.drop 18).take 9)
  pending :=
    if (byteAt bs 4).getLsbD 4 then
      some { version := field bs 27 4, outstanding := byteAt bs 31, watched := (byteAt bs 4).getLsbD 3 }
    else none
  holders := byteAt bs 32

/-- The first `n` CHUNK records of some bytes. -/
def recordsOfBytes : Nat → List Byte → List ItemRecord
  | 0, _ => []
  | n + 1, bs => ItemRecord.ofBytes (bs.take 33) :: recordsOfBytes n (bs.drop 33)

def ChunkStatus.toNat : ChunkStatus → Nat
  | .records => 0 | .recordsEnd => 1 | .endAlone => 2 | .busy => 3

def ChunkStatus.ofCode : Nat → Option ChunkStatus
  | 0 => some .records | 1 => some .recordsEnd | 2 => some .endAlone | 3 => some .busy | _ => none

/-- Whether a CHUNK carries the end mark (R43, Table 11-3). -/
def ChunkStatus.isEnd : ChunkStatus → Bool
  | .recordsEnd => true
  | .endAlone => true
  | _ => false

/-! ## Store line payloads (Tables 11-2, 11-3) -/

/-- The kind byte of a frame; the codes of Table 11-2 are decimal as chapter 11 prints them. -/
def Payload.kindCode : Payload → Nat
  | .authq .. => 10 | .autha .. => 11 | .claim => 20 | .night _ => 21 | .note _ => 22 | .price _ => 30
  | .shown .. => 31 | .hold .. => 32 | .beacon _ => 40 | .pull => 50 | .jpull _ => 51 | .jrel _ => 52
  | .jseg _ => 53 | .chunk _ => 60

/-- The priority class of a frame (Table 1-1): a NOTE takes its flag's class (R186). -/
def Payload.lineClass : Payload → Nat
  | .authq .. => 0 | .autha .. => 0 | .claim => 1 | .night _ => 1 | .note n => if n.flag.classA then 1 else 5
  | .price _ => 2 | .shown .. => 2 | .hold .. => 2 | .beacon _ => 3 | .pull => 4 | .jpull _ => 4 | .jrel _ => 4
  | .jseg _ => 5 | .chunk _ => 6

def Beacon.bytes (b : Beacon) : List Byte :=
  beBytes 1 (bit b.uplinkFitted * 128 + bit b.guestFitted * 64 + bit b.radioFitted * 32 + b.lanes) ++
    beBytes 1 (bit b.guarded * 16 + bit b.clockValid * 8 + bit b.uplinkUp * 4 + bit b.anyA * 2 + bit b.anyB) ++
    beBytes 2 b.day ++ beBytes 3 b.second ++ beBytes 4 b.applied ++ beBytes 2 b.overdueCount ++
    beBytes 2 b.journalUsed ++ beBytes 1 (b.nightState.toNat * 16 + b.nightResult.toNat) ++ beBytes 1 b.undrained

/-- A beacon from its 17 bytes; none where a code or a number lies outside the values of its field (R188). -/
def Beacon.ofBytes (bs : List Byte) : Option Beacon := do
  let st ← NightState.ofCode ((byteAt bs 15).toNat / 16)
  let res ← NightResult.ofCode ((byteAt bs 15).toNat % 16)
  let lanes := (byteAt bs 0).toNat % 8
  if 4 < lanes || Config.daySeconds ≤ field bs 4 3 then none
  else
    some {
      uplinkFitted := (byteAt bs 0).getLsbD 7
      guestFitted := (byteAt bs 0).getLsbD 6
      radioFitted := (byteAt bs 0).getLsbD 5
      lanes := lanes
      guarded := (byteAt bs 1).getLsbD 4
      clockValid := (byteAt bs 1).getLsbD 3
      uplinkUp := (byteAt bs 1).getLsbD 2
      anyA := (byteAt bs 1).getLsbD 1
      anyB := (byteAt bs 1).getLsbD 0
      day := field bs 2 2
      second := field bs 4 3
      applied := field bs 7 4
      overdueCount := field bs 11 2
      journalUsed := field bs 13 2
      nightState := st
      nightResult := res
      undrained := field bs 16 1 }

def NightMsg.bytes : NightMsg → List Byte
  | .held => beBytes 1 1
  | .pricesDone v => beBytes 1 2 ++ beBytes 4 v
  | .time d s => beBytes 1 3 ++ beBytes 2 d ++ beBytes 3 s
  | .closed r => beBytes 1 4 ++ beBytes 1 r.toNat

/-- A NIGHT payload: its length fits its sub-kind (Table 11-2), and CLOSED names a result a night closes with (Table 9-1). -/
def NightMsg.ofBytes (bs : List Byte) : Option NightMsg :=
  match field bs 0 1, bs.length with
  | 1, 1 => some .held
  | 2, 5 => some (.pricesDone (field bs 1 4))
  | 3, 6 => if field bs 3 3 < Config.daySeconds then some (.time (field bs 1 2) (field bs 3 3)) else none
  | 4, 2 =>
    match NightResult.ofCode (field bs 1 1) with
    | some .none => none
    | some r => some (.closed r)
    | none => none
  | _, _ => none

def Stamp.bytes (t : Stamp) : List Byte := flagByte t.valid ++ beBytes 2 t.day ++ beBytes 3 t.second

def Stamp.ofBytes (bs : List Byte) : Option Stamp := do
  let v ← flagOf (byteAt bs 0)
  if field bs 3 3 < Config.daySeconds then some { valid := v, day := field bs 1 2, second := field bs 3 3 } else none

def Note.bytes (n : Note) : List Byte :=
  beBytes 1 n.flag.code.val ++ beBytes 1 (bit n.flag.classA * 2 + bit n.stillSet) ++ n.raised.bytes

def Note.ofBytes (bs : List Byte) : Option Note := do
  let f ← FaultFlag.ofCode (field bs 0 1)
  let t ← Stamp.ofBytes (bs.drop 2)
  some { flag := f, raised := t, stillSet := (byteAt bs 1).getLsbD 0 }

def Jseg.bytes (g : Jseg) : List Byte :=
  beBytes 1 (bit g.empty * 4 + bit g.lastSeg * 2 + bit g.lastRecord) ++ beBytes 4 g.seq ++ beBytes 1 g.index ++ g.data

/-- A JSEG payload. An EMPTY one with record bytes is not accepted (DESIGN CHOICE, notes/assumptions/72.md). -/
def Jseg.ofBytes (bs : List Byte) : Option Jseg :=
  let empty := (byteAt bs 0).getLsbD 2
  if bs.length < 6 || 230 < bs.length || (empty && 6 < bs.length) then none
  else
    some {
      empty := empty
      lastSeg := (byteAt bs 0).getLsbD 1
      lastRecord := (byteAt bs 0).getLsbD 0
      seq := field bs 1 4
      index := field bs 5 1
      data := bs.drop 6 }

def Chunk.bytes (c : Chunk) : List Byte :=
  beBytes 1 c.status.toNat ++ beBytes 1 c.records.length ++ beBytes 4 (if c.status.isEnd then c.applied else 0) ++
    (c.records.map ItemRecord.bytes).flatten

/-- A CHUNK payload. One of end mark alone or BUSY that carries records is not accepted (DESIGN CHOICE,
notes/assumptions/72.md). -/
def Chunk.ofBytes (bs : List Byte) : Option Chunk := do
  let st ← ChunkStatus.ofCode (field bs 0 1)
  let n := field bs 1 1
  if 6 < n || bs.length ≠ 6 + 33 * n || ((st == .endAlone || st == .busy) && 0 < n) then none
  else some { status := st, records := recordsOfBytes n (bs.drop 6), applied := field bs 2 4 }

/-- The decisions an AUTHA names (R83). -/
def Decision.ofAutha : Nat → Option Decision
  | 1 => some .approved
  | 3 => some .declined
  | 5 => some .declinedNoRoute
  | _ => none

/-- The payload bytes of a frame (Table 11-3). -/
def Payload.bytes : Payload → List Byte
  | .authq o l b a => beBytes 1 o.val ++ beBytes 1 l.val ++ beBytes 4 b ++ beBytes 4 a
  | .autha l b d => beBytes 1 l.val ++ beBytes 4 b ++ beBytes 1 d.toNat
  | .claim => []
  | .night m => m.bytes
  | .note n => n.bytes
  | .price p => priceSetBytes p
  | .shown i v s => beBytes 4 i ++ beBytes 4 v ++ beBytes 1 s.val
  | .hold i s j => beBytes 4 i ++ beBytes 1 s.val ++ flagByte j
  | .beacon b => b.bytes
  | .pull => []
  | .jpull n => beBytes 1 n
  | .jrel s => beBytes 4 s
  | .jseg g => g.bytes
  | .chunk c => c.bytes

/-- A payload read by its kind byte: none for an unknown kind (R2), a length that does not fit the kind or a code outside
the values of its field (R188). -/
def Payload.ofBytes (kind : Nat) (bs : List Byte) : Option Payload :=
  match kind with
  | 10 =>
    if bs.length = 10 then do
      let o ← stationOf (byteAt bs 0)
      let l ← laneOf (byteAt bs 1)
      some (.authq o l (field bs 2 4) (field bs 6 4))
    else none
  | 11 =>
    if bs.length = 6 then do
      let l ← laneOf (byteAt bs 0)
      let d ← Decision.ofAutha (field bs 5 1)
      some (.autha l (field bs 1 4) d)
    else none
  | 20 => if bs.length = 0 then some .claim else none
  | 21 => (NightMsg.ofBytes bs).map .night
  | 22 => if bs.length = 8 then (Note.ofBytes bs).map .note else none
  | 30 => if bs.length = 18 then some (.price (priceSetOf bs)) else none
  | 31 => if bs.length = 9 then (stationOf (byteAt bs 8)).map (.shown (field bs 0 4) (field bs 4 4)) else none
  | 32 =>
    if bs.length = 6 then do
      let s ← stationOf (byteAt bs 4)
      let j ← flagOf (byteAt bs 5)
      some (.hold (field bs 0 4) s j)
    else none
  | 40 => if bs.length = 17 then (Beacon.ofBytes bs).map .beacon else none
  | 50 => if bs.length = 0 then some .pull else none
  | 51 => if bs.length = 1 then some (.jpull (field bs 0 1)) else none
  | 52 => if bs.length = 4 then some (.jrel (field bs 0 4)) else none
  | 53 => (Jseg.ofBytes bs).map .jseg
  | 60 => (Chunk.ofBytes bs).map .chunk
  | _ => none

/-- A destination byte: a station number, or hex FF for ALL (Table 11-1); `none` inside stands for ALL. -/
def destOf (b : Byte) : Option (Option Station) := if b == 0xFF#8 then some none else (stationOf b).map some

/-- A frame as bytes after the claim word, check sequence included (Table 11-1, R188). -/
def frameBytes (claim : BitVec 6) (dest : Option Station) (p : Payload) : List Byte :=
  let body := beBytes 1 p.kindCode ++ [match dest with | none => 0xFF#8 | some n => BitVec.ofNat 8 n.val] ++
    beBytes 1 p.bytes.length ++ p.bytes
  body ++ beBytes 2 (crc16 (claim.setWidth 8 :: body)).toNat

/-- A good receive (R2, R188): the length byte does not exceed 240, the frame is complete to its check sequence, and the
check passes over the claim word (as one byte with two leading zeros) and everything after it. -/
def goodReceive (claim : BitVec 6) (bytes : List Byte) : Bool :=
  let len := (byteAt bytes 2).toNat
  3 ≤ bytes.length && len ≤ 240 && bytes.length == len + 5 && crcPasses (claim.setWidth 8 :: bytes)

/-- The class and the sender in a claim word: class in the high three bits (Table 11-1). -/
def claimClass (claim : BitVec 6) : Nat := claim.toNat / 8
def claimStation (claim : BitVec 6) : Station := ⟨claim.toNat % 8, Nat.mod_lt _ (by decide)⟩

/-! ## Journal cells (section 11.3) -/

def RecordType.toNat : RecordType → Nat
  | .sale => 1 | .cancelled => 2 | .lostByReset => 3

/-- The basket header cell (Table 11-5). -/
def BasketRecord.header (r : BasketRecord) (seq : Nat) : List Byte :=
  let tax := r.tax.getD { c0 := 0, c1 := 0, c2 := 0, c3 := 0 }
  beBytes 32 (packBits [(3, r.type.toNat), (3, r.station.val), (2, r.lane.val), (32, seq), (32, r.basket),
    (1, bit r.stamp.valid), (16, r.stamp.day), (17, r.stamp.second), (7, r.lines.length), (3, r.tenders.length),
    (1, bit r.standin), (27, r.total.toNat), (25, tax.c0), (25, tax.c1), (25, tax.c2), (25, tax.c3), (12, 0)])

/-- A line cell (Table 11-6). -/
def Line.cell (l : Line) : List Byte :=
  beBytes 1 l.number ++ beBytes 4 l.item ++
    beBytes 1 (bit (l.kind == .weighed) * 128 + bit l.voided * 64 + bit l.promo * 32 + l.taxClass.val) ++
    beBytes 2 l.quantity ++ beBytes 3 l.headline ++ beInt4 l.amount ++ zeros 17

/-- A tender cell; `change` is the change due on the completing tender, else 0 (Table 11-6). -/
def Tender.cell (t : Tender) (change : Int) : List Byte :=
  (match t with
    | .cash a => beBytes 1 0 ++ beBytes 1 0 ++ beBytes 4 a
    | .card a s => beBytes 1 1 ++ beBytes 1 (if s then Decision.approvedStandin.toNat else Decision.approved.toNat) ++ beBytes 4 a) ++
    beBytes 4 change.toNat ++ zeros 22

/-- The tender cells in order: the change due stands in the last one, the tender that completed the basket (R92). -/
def tenderCells (change : Option Int) : List Tender → List Byte
  | [] => []
  | [t] => t.cell (change.getD 0)
  | t :: ts => t.cell 0 ++ tenderCells change ts

/-- The fields the two note cells share (Table 11-6). -/
def noteCell (type : Nat) (seq : Nat) (station : Station) (lane : Lane) (basket : Nat) (t : Stamp) : List Byte :=
  beBytes 1 (packBits [(3, type), (3, station.val), (2, lane.val)]) ++ beBytes 4 seq ++ beBytes 4 basket ++ t.bytes

/-- A record's cells as bytes, header first (R92, section 11.3). -/
def RecordContent.bytes (seq : Nat) : RecordContent → List Byte
  | .basket r =>
    r.header seq ++ (r.lines.map Line.cell).flatten ++
      tenderCells r.change (if r.type == .cancelled then [] else r.tenders)
  | .lostByRestart st l b t => noteCell 4 seq st l b t ++ zeros 17
  | .lateAuth st l b t a d e =>
    noteCell 5 seq st l b t ++ beBytes 4 a ++ beBytes 1 d.toNat ++ beBytes 1 e.toNat ++ zeros 11

/-- The cells a record takes (R89). -/
def RecordContent.cells : RecordContent → Nat
  | .basket r => 1 + r.lines.length + (if r.type == .cancelled then 0 else r.tenders.length)
  | .lostByRestart .. => 1
  | .lateAuth .. => 1

/-! ## The profile (Table 11-10, R191) -/

def LaneMode.ofCode : Nat → Option LaneMode
  | 0 => some .till
  | 1 => some .service
  | _ => none

/-- The fields of a profile of 96 bytes; none where the check word or a field range fails (R179, R191). -/
def Profile.ofBytes (bs : List Byte) : Option Profile := do
  if bs.length ≠ 96 || crc16 (bs.take 94) ≠ BitVec.ofNat 16 (field bs 94 2) then none
  else
    let m0 ← LaneMode.ofCode (field bs 24 1)
    let m1 ← LaneMode.ofCode (field bs 25 1)
    let m2 ← LaneMode.ofCode (field bs 26 1)
    let m3 ← LaneMode.ofCode (field bs 27 1)
    let p : Profile := {
      store := field bs 0 4
      w0 := field bs 4 2
      d1 := field bs 6 2
      d2 := field bs 8 2
      openMinute := field bs 10 2
      closeMinute := field bs 92 2
      floorLimit := field bs 12 4
      taxRates := Vector.ofFn fun i => field bs (16 + 2 * i.val) 2
      modes := #v[m0, m1, m2, m3]
      ranges := Vector.ofFn fun i => { base := field bs (28 + 8 * i.val) 4, size := field bs (32 + 8 * i.val) 4 } }
    if p.w0 ≤ 1439 && p.openMinute ≤ 1439 && p.closeMinute ≤ 1439 && 0 < p.d1 && p.d1 < p.d2 && p.d2 ≤ 360 &&
        p.floorLimit ≤ 100000 && p.taxRates.toList.all (· ≤ 2500) then
      some p
    else none

/-! ## The night report (Table 11-12) -/

def DrainEntry.bytes (d : DrainEntry) : List Byte :=
  beBytes 1 d.outcome.toNat ++ beBytes 4 d.records ++ beBytes 4 d.cells

/-- Flags packed with flag n in bit n. -/
def flagBits : List Bool → Nat
  | [] => 0
  | b :: bs => bit b + 2 * flagBits bs

def Report.bytes (r : Report) : List Byte :=
  beBytes 4 r.store ++ beBytes 2 r.day ++ beBytes 1 r.result.toNat ++ (r.drain.map DrainEntry.bytes).flatten ++
    beBytes 2 r.refusedCount ++ beBytes 2 r.refused.length ++ beBytes 2 r.overdueCount ++ beBytes 2 r.overdue.length ++
    beBytes 2 r.unwatched ++ beBytes 2 r.faulted ++ beBytes 2 r.lowBattery ++ beBytes 2 r.unknown ++
    beBytes 2 r.dropped ++ beBytes 2 r.notesLost ++ beBytes 2 r.malformed ++ beBytes 2 r.guestRefused ++
    beBytes 2 r.policed ++ beBytes 1 (flagBits r.touched) ++ (r.refused.map (beBytes 4)).flatten ++
    (r.overdue.map (beBytes 4)).flatten

end Sys2Proof.Machine
end

