-- ==== Sys2Proof/Machine/Ops.lean ====
section
/-! DEFINITION. The named operations every block uses: one modifier per block of State, the readings of the state that many
rules share, and the Line Port's placing, keeping and withdrawing of frames (R5, R9). -/

namespace Sys2Proof.Machine

/-! ## One modifier per block -/

def State.onLine (s : State) (f : LinePort → LinePort) : State := { s with line := f s.line }
def State.onRoster (s : State) (f : Roster → Roster) : State := { s with roster := f s.roster }
def State.onItems (s : State) (f : ItemTable → ItemTable) : State := { s with items := f s.items }
def State.onHeld (s : State) (f : HeldMemory → HeldMemory) : State := { s with held := f s.held }
def State.onLabels (s : State) (f : LabelUnit → LabelUnit) : State := { s with labels := f s.labels }
def State.onRouter (s : State) (f : Router → Router) : State := { s with router := f s.router }
def State.onGuest (s : State) (f : GuestUnit → GuestUnit) : State := { s with guest := f s.guest }
def State.onNight (s : State) (f : Night → Night) : State := { s with night := f s.night }
def State.onClock (s : State) (f : Clock → Clock) : State := { s with clock := f s.clock }
def State.onFaults (s : State) (f : FaultRecord → FaultRecord) : State := { s with faults := f s.faults }
def State.onStart (s : State) (f : StartControl → StartControl) : State := { s with start := f s.start }
def State.setJournal (s : State) (b : Option OwnerBatch) : State := { s with journal := b }

/-- Put one more thing out on a port. -/
def State.emit (s : State) (o : Output) : State := { s with out := s.out ++ [o] }

/-- The context of a lane. -/
def State.lane (s : State) (l : Lane) : LaneContext := s.lanes[l.val]

/-- Change the context of one lane. -/
def State.onLane (s : State) (l : Lane) (f : LaneContext → LaneContext) : State :=
  { s with lanes := s.lanes.set l.val (f (s.lane l)) }

/-- Change the basket of one lane. -/
def State.onBasket (s : State) (l : Lane) (f : Basket → Basket) : State :=
  s.onLane l fun c => { c with basket := f c.basket }

/-! ## Running a command -/

/-- What every command does first: the port outputs of the command before are gone, and a station without power does nothing
(POWER_LOSS cuts it off, R91; only POWER_ON acts then). -/
def live (f : State → State) (s : State) : State :=
  if s.start.powered then f { s with out := [] } else { s with out := [] }

/-- What `exec` and every meaning answer. -/
abbrev Result := Host.Outcome State Fault Refusal

/-- A command of a station with power: it takes a next state, always. -/
def run (f : State → State) (s : State) : Result := .next (live f s)

/-! ## Readings -/

/-- This station's number (R177). -/
def State.self (s : State) : Station := s.start.straps.station

/-- Running time (R182). -/
def State.now (s : State) : Nat := s.clock.now

/-- The Clock as a stamp: 0 and 0 while invalid (R182, R92). -/
def State.stamp (s : State) : Stamp :=
  if s.clock.valid then { valid := true, day := s.clock.day, second := s.clock.second }
  else { valid := false, day := 0, second := 0 }

/-- The standing follows from the counts (R12). -/
def LinePort.standing (l : LinePort) : Standing :=
  if Config.sfcLimit ≤ l.sfc then .silenced
  else if l.sfc < Config.guardedMark && l.hfc < Config.guardedMark then .full
  else .guarded

/-- The standing is SILENCED. -/
def State.silenced (s : State) : Bool := Config.sfcLimit ≤ s.line.sfc

/-- The strapped lane count: a strap wired above 4 is read as 4 (R177). -/
def State.laneCount (s : State) : Nat := min s.start.straps.lanes 4

/-- A lane is present when its number is below the strapped lane count (R67). -/
def State.lanePresent (s : State) (l : Lane) : Bool := l.val < s.laneCount

/-- A lane's mode: as the profile gives it, TILL while PROFILE_BAD is raised (R67). -/
def State.laneMode (s : State) (l : Lane) : LaneMode :=
  if s.start.profileBad then .till else s.start.profile.modes[l.val]

/-- The entry of a peer; none is UNKNOWN (R20). -/
def State.entry (s : State) (n : Station) : Option PeerEntry := s.roster.entries[n.val]

/-- A peer entry is PRESENT. -/
def State.present (s : State) (n : Station) : Bool :=
  match s.entry n with
  | some e => e.presence == .present
  | none => false

/-- A peer entry is ABSENT. -/
def State.absent (s : State) (n : Station) : Bool :=
  match s.entry n with
  | some e => e.presence == .absent
  | none => false

/-- Some peer entry is PRESENT. -/
def State.anyPresent (s : State) : Bool := allStations.any s.present

/-- A fault flag is set (R185). -/
def State.flagSet (s : State) (f : FaultFlag) : Bool := s.faults.flags[f.code.val].raised.isSome

/-- The night window is open: from leaving IDLE to entering CLOSED (R159). -/
def State.windowOpen (s : State) : Bool :=
  match s.night.state with
  | .claiming => true
  | .exchanging => true
  | .following => true
  | _ => false

/-- The router holds the gateway role while the Roster names this station (R125). -/
def State.holdsRole (s : State) : Bool := s.roster.gateway == some s.self

/-- The uplink is up: fitted, and the carrier link UP (R18, R124). -/
def State.uplinkUp (s : State) : Bool := s.start.straps.uplink && s.router.linkUp

/-- Used cells: the sum of the cells of the records held (R89). -/
def HeldMemory.used (h : HeldMemory) : Nat := (h.records.map fun r => r.content.cells).foldl (· + ·) 0

/-- The headline of a price state: price less the markdown share, rounded half up (R26, R52). -/
def roundHalfUp (x y : Nat) : Nat := (2 * x + y) / (2 * y)

def headline (p : PriceState) : Nat := p.price - roundHalfUp (p.price * p.markdown) 10000

/-- Membership, insertion and removal in a station set (section 3.6 of 00_scope.md). -/
def hasStation (x : StationSet) (n : Station) : Bool := x.getLsbD n.val
def addStation (x : StationSet) (n : Station) : StationSet := x ||| (1#8 <<< n.val)
def dropStation (x : StationSet) (n : Station) : StationSet := x &&& ~~~(1#8 <<< n.val)

/-- The item record of a code (R25). -/
def ItemTable.find (t : ItemTable) (code : Nat) : Option ItemRecord := t.records.find? fun r => r.code == code

/-- The number of records with the overdue flag set (R39). -/
def ItemTable.overdueCount (t : ItemTable) : Nat := (t.records.filter (·.overdue)).length

/-- The unwatched count: records whose pending part has the watched flag clear (R38). -/
def ItemTable.unwatched (t : ItemTable) : Nat :=
  (t.records.filter fun r => match r.pending with | some p => !p.watched | none => false).length

/-! ## The Line Port: slots (R5, R9) -/

/-- The send slots of each owner (Table 1-2). -/
def Owner.slots : Owner → List (Fin 11)
  | .auth => [0, 1]
  | .night => [2]
  | .note => [3]
  | .item => [4, 5]
  | .beacon => [6]
  | .pull => [7]
  | .journal => [8]
  | .jseg => [9]
  | .chunk => [10]

/-- The owner of a kind of frame (Table 1-2). -/
def Payload.owner : Payload → Owner
  | .authq .. => .auth
  | .autha .. => .auth
  | .claim => .night
  | .night _ => .night
  | .note _ => .note
  | .price _ => .item
  | .shown .. => .item
  | .hold .. => .item
  | .beacon _ => .beacon
  | .pull => .pull
  | .jpull _ => .journal
  | .jrel _ => .journal
  | .jseg _ => .jseg
  | .chunk _ => .chunk

def Draft.owner : Draft → Owner
  | .frame f => f.payload.owner
  | .note .. => .note
  | .nextChunk => .chunk

def Slot.isFree : Slot → Bool
  | .free => true
  | .held .. => false

/-- The frame a slot holds. -/
def Slot.frame : Slot → Option Frame
  | .free => none
  | .held _ f _ _ => some f

def State.slot (s : State) (i : Fin 11) : Slot := s.line.slots[i.val]

def State.setSlot (s : State) (i : Fin 11) (x : Slot) : State :=
  s.onLine fun l => { l with slots := l.slots.set i.val x }

/-- The lowest-numbered FREE slot of an owner (R5). -/
def State.freeSlot (s : State) (o : Owner) : Option (Fin 11) := o.slots.find? fun i => (s.slot i).isFree

/-- The snapshot the serving side places next: up to six records after the cursor in code order, with the end mark and A when
the table has no more (R43). -/
def nextChunkOf (t : ItemTable) (cursor : Nat) : Chunk :=
  let left := t.records.filter fun r => cursor < r.code
  let now := left.take 6
  { status := if left.length ≤ 6 then (if left.isEmpty then .endAlone else .recordsEnd) else .records
    records := now
    applied := if left.length ≤ 6 then t.applied else 0 }

/-- The code of the last record of a list, or a default. -/
def lastCode (rs : List ItemRecord) (d : Nat) : Nat :=
  match rs.getLast? with
  | some r => r.code
  | none => d

/-- Complete a kept frame at the moment it is placed: a NOTE learns whether its flag is still set, and a resent NOTE clears
its unsent mark (R186); the next CHUNK takes its snapshot and moves the cursor (R43). -/
def fillDraft (s : State) : Draft → Option Frame × State
  | .frame f => (some f, s)
  | .note flag raised resend =>
    (some { dest := none, payload := .note { flag := flag, raised := raised, stillSet := s.flagSet flag }, applied := false },
      if resend then
        s.onFaults fun r =>
          { r with flags := r.flags.set flag.code.val { raised := r.flags[flag.code.val].raised, unsent := none } }
      else s)
  | .nextChunk =>
    match s.items.serving with
    | none => (none, s)
    | some v =>
      let c := nextChunkOf s.items v.cursor
      (some { dest := some v.requester, payload := .chunk c, applied := false },
        s.onItems fun t => { t with serving := some { v with cursor := lastCode c.records v.cursor } })

/-- The first kept frame of an owner, and the kept frames without it. -/
def takeKept (o : Owner) : List Draft → Option (Draft × List Draft)
  | [] => none
  | d :: ds =>
    if d.owner = o then some (d, ds)
    else (takeKept o ds).map fun r => (r.1, d :: r.2)

/-- Place the oldest kept frame of an owner, where one of its slots is FREE: the slot goes to WAITING with an unheard count of
0 and no withdraw mark (R5). -/
def State.refillOnce (s : State) (o : Owner) : State :=
  match s.freeSlot o, takeKept o s.line.kept with
  | some i, some (d, rest) =>
    match fillDraft (s.onLine fun l => { l with kept := rest }) d with
    | (some f, t) => t.setSlot i (.held .waiting f 0 false)
    | (none, t) => t
  | _, _ => s

/-- Place kept frames in the order produced, one per FREE slot; an owner has at most two slots (R5). -/
def State.refill (s : State) (o : Owner) : State := (s.refillOnce o).refillOnce o

/-- An owner produces a frame: it goes behind the owner's kept frames and is placed when a slot is FREE (R5). The SILENCED case
is the producer's (R13). -/
def State.place (s : State) (d : Draft) : State :=
  (s.onLine fun l => { l with kept := l.kept ++ [d] }).refill d.owner

/-- Withdraw from one slot (R9): a WAITING slot goes to FREE, a SENDING slot takes the withdraw mark. -/
def withdrawSlot (p : Frame → Bool) : Slot → Slot
  | .free => .free
  | .held .waiting f u w => if p f then .free else .held .waiting f u w
  | .held .sending f u w => if p f then .held .sending f u true else .held .sending f u w

/-- Withdraw from one slot only what is still WAITING there (R161). -/
def dropWaiting (p : Frame → Bool) : Slot → Slot
  | .held .waiting f u w => if p f then .free else .held .waiting f u w
  | x => x

/-- An owner changes each of its slots, drops every frame that meets `p` from what it keeps (DEDUCED, notes/assumptions/9.md),
and its freed slots take kept frames. -/
def State.withdrawBy (s : State) (change : Slot → Slot) (o : Owner) (p : Frame → Bool) : State :=
  let slots := o.slots.foldl (fun v (i : Fin 11) => v.set i.val (change v[i.val])) s.line.slots
  let keep : Draft → Bool
    | .frame f => !(decide (f.payload.owner = o) && p f)
    | _ => true
  (s.onLine fun l => { l with slots := slots, kept := l.kept.filter keep }).refill o

/-- An owner withdraws every frame of its own that meets `p` (R9). -/
def State.withdraw (s : State) (o : Owner) (p : Frame → Bool) : State := s.withdrawBy (withdrawSlot p) o p

/-- An owner withdraws every frame of its own that meets `p` and is still WAITING, or kept; one SENDING stays as it is (R161). -/
def State.withdrawWaiting (s : State) (o : Owner) (p : Frame → Bool) : State := s.withdrawBy (dropWaiting p) o p

/-- A frame of this station meeting `p` is in a slot or kept. -/
def State.holdsFrame (s : State) (p : Frame → Bool) : Bool :=
  s.line.slots.toList.any (fun x => match x.frame with | some f => p f | none => false) ||
    s.line.kept.any (fun d => match d with | .frame f => p f | _ => false)

/-- The beacon's contents from the blocks that own each field, as they stand (R18). -/
def State.beacon (s : State) : Beacon where
  uplinkFitted := s.start.straps.uplink
  guestFitted := s.start.straps.guestPort
  radioFitted := s.start.straps.labelRadio
  lanes := s.laneCount
  guarded := s.line.standing == .guarded
  clockValid := s.clock.valid
  uplinkUp := s.uplinkUp
  anyA := allFlags.any fun f => f.classA && s.flagSet f
  anyB := allFlags.any fun f => !f.classA && s.flagSet f
  day := s.clock.day
  second := s.clock.second
  applied := s.items.applied
  overdueCount := s.items.overdueCount
  journalUsed := s.held.used
  nightState := s.night.state
  nightResult := s.night.result
  undrained := s.night.undrained

/-! ## The journal pressure (R23) -/

/-- The highest used-cells figure among this station and the last beacons of its PRESENT peers. -/
def State.pressureNow (s : State) : Nat :=
  allStations.foldl
    (fun m n =>
      match s.entry n with
      | some e => if e.presence == .present then max m e.beacon.journalUsed else m
      | none => m)
    s.held.used

/-- Work the pressure out again and store it (R21, R23). -/
def State.recalcPressure (s : State) : State := s.onRoster fun r => { r with pressure := s.pressureNow }

end Sys2Proof.Machine
end

