-- ==== Sys2Proof/Machine/Scheduler.lean ====
section
/-! DEFINITION. The class queues and the scheduler of the Uplink Router (sections 7.2 to 7.4), and the forwarding of class A
notes (R142). -/

namespace Sys2Proof.Machine

/-- A count that stops at 65,535 (R143, R156). -/
def bump (n : Nat) : Nat := min (n + 1) Config.countLimit

/-- The guest quantum (R132): 0 while the night window is open or a day drain runs, else by the journal pressure. -/
def State.guestQuantum (s : State) : Nat :=
  if s.windowOpen || s.night.dayDrain then 0
  else if Config.highMark ≤ s.roster.pressure then Config.guestQuantumLow
  else Config.guestQuantumFull

/-- The quantum of a class (R132). -/
def State.quantum (s : State) : SharedClass → Nat
  | .night => Config.nightQuantum
  | .guest => s.guestQuantum
  | .service => Config.serviceQuantum

/-- The rotation NIGHT, GUEST, SERVICE (R130). -/
def SharedClass.next : SharedClass → SharedClass
  | .night => .guest
  | .guest => .service
  | .service => .night

/-- The length of an office item on the carrier link: kind, body length, part index, last-part flag and CRC about its bytes
(R127, R190). -/
def Part.length (p : Part) : Nat := p.data.length + 7

/-- Lengths of the items of a shared class, head first (R127). -/
def Router.lengths (r : Router) : SharedClass → List Nat
  | .night => r.nightQueue.map Part.length
  | .guest => r.guestQueue.map fun g => g.data.length
  | .service => r.serviceQueue.map Part.length

def Router.deficit (r : Router) : SharedClass → Nat
  | .night => r.nightDeficit
  | .guest => r.guestDeficit
  | .service => r.serviceDeficit

def Router.setDeficit (r : Router) (c : SharedClass) (d : Nat) : Router :=
  match c with
  | .night => { r with nightDeficit := d }
  | .guest => { r with guestDeficit := d }
  | .service => { r with serviceDeficit := d }

/-- The turn passes to the next class in the rotation (R131). -/
def Router.passTurn (r : Router) : Router := { r with current := r.current.next, turnBegun := false }

/-- All three shared queues are empty. -/
def Router.sharedEmpty (r : Router) : Bool := r.nightQueue.isEmpty && r.guestQueue.isEmpty && r.serviceQueue.isEmpty

/-- The GUEST flow at an index (R138). -/
def Router.flow (r : Router) (index : Nat) : Option GuestFlow := r.guestFlows.find? fun f => f.index == index

/-- Take the head of a shared class's queue and what goes to the carrier unit; a guest packet leaves from its flow's uplink
port (R131, R139). -/
def Router.popShared (r : Router) : SharedClass → Option (CarrierItem × Router)
  | .night =>
    match r.nightQueue with
    | [] => none
    | p :: ps => some (.office p, { r with nightQueue := ps })
  | .service =>
    match r.serviceQueue with
    | [] => none
    | p :: ps => some (.office p, { r with serviceQueue := ps })
  | .guest =>
    match r.guestQueue with
    | [] => none
    | g :: gs =>
      let (d, dp) := match r.flow g.flow with | some f => (f.dest, f.destPort) | none => (0, 0)
      some (.guest (Config.firstPort + g.flow) d dp g.data, { r with guestQueue := gs })

/-- Hand an item to the carrier unit: the carrier link is no longer free (R131). -/
def State.handOver (s : State) (item : CarrierItem) (r : Router) : State :=
  { s with router := { r with linkFree := false }, out := s.out ++ [.carrier item] }

/-- Steps 2 to 5 of R131 over the shared classes. `fuel` bounds the turns looked at: a class with a waiting head sends within
four of its turns, so 48 turns reach every class that can send. -/
def State.turns : Nat → State → State
  | 0, s => s
  | fuel + 1, s =>
    if s.router.sharedEmpty then
      if s.router.turnBegun then s.onRouter fun r => (r.setDeficit r.current 0).passTurn else s
    else
      let r :=
        if s.router.turnBegun then s.router
        else { s.router.setDeficit s.router.current (s.router.deficit s.router.current + s.quantum s.router.current) with
          turnBegun := true }
      match r.lengths r.current with
      | [] => State.turns fuel { s with router := (r.setDeficit r.current 0).passTurn }
      | n :: _ =>
        if n ≤ r.deficit r.current then
          match r.popShared r.current with
          | some (item, r') => s.handOver item (r'.setDeficit r.current (r.deficit r.current - n))
          | none => s
        else State.turns fuel { s with router := r.passTurn }

/-- The scheduler's choice of one item, when the carrier link is free and UP (R131). -/
def State.schedule (s : State) : State :=
  if s.router.linkUp && s.router.linkFree then
    match s.router.authQueue with
    | a :: rest =>
      let sent (f : AuthFlow) : AuthFlow := if f.tag == a.tag then { f with sent := some s.now } else f
      s.handOver (.auth a) { s.router with authQueue := rest, authFlows := s.router.authFlows.map sent }
    | [] => s.turns 48
  else s

/-- The items an office message of this kind and these field bytes makes: one, or parts of 1,600 bytes and the rest where the
whole would be longer (R127). -/
def partsOf (kind : Nat) (data : List Byte) : List Part :=
  let cut := pieces (Config.maxItem - 7) 8 data
  cut.zipIdx.map fun d => { kind := kind, index := d.2, last := d.2 + 1 == cut.length, data := d.1 }

/-- An OFFICE_NOTE as an item (Table 11-11, kind 10). -/
def OfficeNote.parts (n : OfficeNote) : List Part :=
  partsOf 10 (beBytes 1 n.station.val ++ beBytes 1 n.flag.code.val ++ n.raised.bytes ++ beBytes 4 n.store)

/-- OFFICE_NOTEs of the backlog join the SERVICE queue as places free, head first (R142). -/
def joinBacklog : Nat → Router → Router
  | 0, r => r
  | fuel + 1, r =>
    match r.backlog with
    | [] => r
    | n :: rest =>
      if r.serviceQueue.length + n.parts.length ≤ Config.servicePlaces then
        joinBacklog fuel { r with serviceQueue := r.serviceQueue ++ n.parts, backlog := rest }
      else r

/-- Forward a class A note to head office while the gateway role is held: the SERVICE queue, else the note backlog, else it is
dropped and counted (R142). -/
def State.forwardNote (s : State) (station : Station) (flag : FaultFlag) (raised : Stamp) : State :=
  if s.holdsRole then
    let n : OfficeNote := { station := station, flag := flag, raised := raised, store := s.start.profile.store }
    let r := s.router
    if r.serviceQueue.length + n.parts.length ≤ Config.servicePlaces then
      (s.onRouter fun r => { r with serviceQueue := r.serviceQueue ++ n.parts }).schedule
    else if r.backlog.length < Config.backlogPlaces then
      s.onRouter fun r => { r with backlog := r.backlog ++ [n] }
    else s.onRouter fun r => { r with notesLost := bump r.notesLost }
  else s

end Sys2Proof.Machine
end

