-- ==== Sys2Proof/Machine/Flags.lean ====
section
/-! DEFINITION. The fault flags: raising, dropping, their NOTEs and unsent marks (R185, R186). -/

namespace Sys2Proof.Machine

def State.flag (s : State) (f : FaultFlag) : FlagEntry := s.faults.flags[f.code.val]

def State.setFlag (s : State) (f : FaultFlag) (e : FlagEntry) : State :=
  s.onFaults fun r => { r with flags := r.flags.set f.code.val e }

/-- The outcome of a NOTE (R186): CARRIED clears the flag's unsent mark, any other outcome sets it and keeps the time. -/
def State.noteOutcome (s : State) (f : FaultFlag) (raised : Stamp) (carried : Bool) : State :=
  s.setFlag f { s.flag f with unsent := if carried then none else some raised }

/-- Produce a NOTE for slot 3. While SILENCED it is ended at once, which sets the unsent mark (R13, R186). -/
def State.produceNote (s : State) (f : FaultFlag) (raised : Stamp) (resend : Bool) : State :=
  if s.silenced then s.noteOutcome f raised false else s.place (.note f raised resend)

/-- Raise a flag. A flag already set changes nothing. Else it takes the Clock's stamp, a NOTE is produced and a class A flag is
handed to the Uplink Router (R185, R186). -/
def State.raise (s : State) (f : FaultFlag) : State :=
  if (s.flag f).raised.isSome then s
  else
    let t := s.stamp
    let s1 := (s.setFlag f { s.flag f with raised := some t }).produceNote f t false
    if f.classA then s1.forwardNote s.self f t else s1

/-- A level flag drops: its first-raised time is cleared (R185). -/
def State.dropFlag (s : State) (f : FaultFlag) : State := s.setFlag f { s.flag f with raised := none }

/-- Produce a NOTE again for each flag whose unsent mark is set (R186), in the order of the flag codes (DESIGN CHOICE,
notes/assumptions/79.md). -/
def State.resendNotes (s : State) : State :=
  allFlags.foldl
    (fun t f =>
      match (s.flag f).unsent with
      | some raised => t.produceNote f raised true
      | none => t)
    s

end Sys2Proof.Machine
end

