-- ==== Sys2Proof/Machine/Guest.lean ====
section
/-! DEFINITION. Guest wireless: the Guest Unit (chapter 8) and the router's GUEST flows (R138 to R140). -/

namespace Sys2Proof.Machine

/-! ## Serving and the closed condition (R144) -/

/-- Within open hours from the start of the open minute to the start of the close minute, across midnight where the close
minute is the lower (R144). -/
def withinHours (o c second : Nat) : Bool :=
  if o < c then o * 60 ≤ second && second < c * 60
  else if c < o then o * 60 ≤ second || second < c * 60
  else false

/-- A second of the day lies within the profile's open hours (R144). -/
def State.hoursAt (s : State) (second : Nat) : Bool :=
  withinHours s.start.profile.openMinute s.start.profile.closeMinute second

def State.openHours (s : State) : Bool := s.hoursAt s.clock.second

/-- The closed condition (R144). -/
def State.closed (s : State) : Bool :=
  s.start.profileBad || !s.clock.valid || !s.openHours || s.windowOpen || s.night.dayDrain

/-- The Guest Unit serves (R144). -/
def State.serves (s : State) : Bool := s.start.straps.guestPort && s.holdsRole

/-- A good frame from the access point, on a station with the guest port fitted (R144, R154). -/
def State.fromAp (s : State) (f : State → State) : State :=
  if s.start.straps.guestPort then f (s.onGuest fun g => { g with apHeard := some s.now }) else s

/-! ## The table (R145) -/

/-- The client is joined. -/
def GuestEntry.joined (e : GuestEntry) : Bool := e.state == .admitted || e.state == .exhausted

def allSlots : List (Fin 64) := List.finRange 64

def State.guestAt (s : State) (i : Fin 64) : GuestEntry := s.guest.table[i.val]

def State.setGuest (s : State) (i : Fin 64) (e : GuestEntry) : State :=
  s.onGuest fun g => { g with table := g.table.set i.val e }

/-- The slot of a client that is not FREE. -/
def State.guestOf (s : State) (address : Nat) : Option (Fin 64) :=
  allSlots.find? fun i => !((s.guestAt i).state == .free) && (s.guestAt i).address == some address

def State.countPoliced (s : State) : State := s.onGuest fun g => { g with policed := bump g.policed }

/-! ## GUEST flows (R138) -/

/-- Remove the flows a test picks; the queued packets that name them are taken out and counted as dropped (R138). -/
def State.removeFlows (s : State) (p : GuestFlow → Bool) : State :=
  let gone := (s.router.guestFlows.filter p).map (·.index)
  let lost := s.router.guestQueue.filter fun g => gone.contains g.flow
  s.onRouter fun r =>
    { r with
      guestFlows := r.guestFlows.filter fun f => !p f
      guestQueue := r.guestQueue.filter fun g => !gone.contains g.flow
      guestDropped := min (r.guestDropped + lost.length) Config.countLimit }

/-- FLOW_IDLE_EXPIRY (R138). -/
def State.doFlowIdle (index : Nat) (s : State) : State :=
  s.removeFlows fun f => f.index == index && f.lastUsed + Config.flowLife ≤ s.now

/-- Put a flow into its place in index order, replacing one of the same index. -/
def putFlow (f : GuestFlow) : List GuestFlow → List GuestFlow
  | [] => [f]
  | x :: xs =>
    if f.index < x.index then f :: x :: xs
    else if f.index = x.index then f :: xs
    else x :: putFlow f xs

/-- The lowest free flow index; none where all 512 are in use (R139). -/
def freeFlow (fs : List GuestFlow) : Option Nat := (List.range Config.maxFlows).find? fun i => fs.all fun f => f.index != i

def State.setFlow (s : State) (f : GuestFlow) : State := s.onRouter fun r => { r with guestFlows := putFlow f r.guestFlows }

def State.dropGuest (s : State) : State := s.onRouter fun r => { r with guestDropped := bump r.guestDropped }

/-- Queue a packet for a flow, or drop it at a full queue (R129, R139 steps 3 and 4). -/
def State.queueGuest (s : State) (f : GuestFlow) (data : List Byte) : State :=
  if Config.guestPlaces ≤ s.router.guestQueue.length then s.dropGuest
  else
    ((s.setFlow { f with lastUsed := s.now }).onRouter fun r =>
      { r with guestQueue := r.guestQueue ++ [{ flow := f.index, data := data }] }).schedule

/-- The router's part of an outbound packet (R139). -/
def State.routeGuest (s : State) (slot : Fin 64) (p : GuestPacket) : State :=
  if !s.uplinkUp then s.dropGuest
  else
    match s.router.guestFlows.find? fun f =>
        f.slot == slot && f.port == p.port && f.dest == p.dest && f.destPort == p.destPort with
    | some f => s.queueGuest f p.data
    | none =>
      match freeFlow s.router.guestFlows with
      | none => s.dropGuest
      | some i =>
        let f : GuestFlow :=
          { index := i, slot := slot, port := p.port, dest := p.dest, destPort := p.destPort, lastUsed := s.now }
        (s.setFlow f).queueGuest f p.data

/-! ## Ending sessions (R153, R154) -/

/-- A client's session ends (R153): ENDED with the ended time now, its flows removed, DROP where one is due. -/
def State.endClient (s : State) (drop : Bool) (i : Fin 64) : State :=
  let e := s.guestAt i
  let s1 := (s.setGuest i { e with state := .ended, sessionEnd := none, ended := some s.now }).removeFlows fun f =>
    f.slot == i
  if drop then s1.emit (.accessPoint (.drop (e.address.getD 0))) else s1

/-- Every joined client ends, in ascending slot order (R154). -/
def State.endGuests (s : State) (drop : Bool) : State :=
  (allSlots.filter fun i => (s.guestAt i).joined).foldl (fun t i => t.endClient drop i) s

/-- The closed condition is worked out again (R144, R154): while it holds no client stays joined. -/
def State.endIfClosed (s : State) : State := if s.closed then s.endGuests true else s

/-- SESSION_END (R153). -/
def State.doSessionEnd (i : Fin 64) (s : State) : State :=
  let e := s.guestAt i
  match e.sessionEnd with
  | some t => if e.joined && t ≤ s.now then s.endClient true i else s
  | none => s

/-- DISASSOC (R153): no DROP; ignored while the unit does not serve (R144). -/
def State.disassocWork (address : Nat) (s : State) : State :=
  if !s.serves then s
  else
    match s.guestOf address with
    | some i => if (s.guestAt i).joined then s.endClient false i else s
    | none => s

def State.doDisassoc (address : Nat) (s : State) : State := s.fromAp (State.disassocWork address)

/-- AP_RESET (R154). -/
def State.doApReset (s : State) : State := s.fromAp fun t => t.endGuests false

/-- STATUS (R190): it only keeps the access point's link counted (R154). -/
def State.doStatus (s : State) : State := s.fromAp id

/-- GUEST_FRAME_BAD (R190): dropped with no answer and no count. -/
def State.doGuestBad (s : State) : State := s

/-- AP_LINK_LOST (R154): 3 s with no frame from the access point. -/
def State.doApLost (s : State) : State :=
  match s.guest.apHeard with
  | some t =>
    if t + Config.presenceLife ≤ s.now then (s.onGuest fun g => { g with apHeard := none }).endGuests false else s
  | none => s

/-! ## Admission (R146, R147) -/

def State.refuse (s : State) (address : Nat) (reason : RefuseReason) : State :=
  (s.onGuest fun g => { g with refused := bump g.refused }).emit (.accessPoint (.refuse address reason))

/-- The ENDED slot with the earliest ended time, the lowest-numbered among equals (R147). -/
def State.oldestEnded (s : State) : Option (Fin 64) :=
  allSlots.foldl
    (fun best i =>
      match (s.guestAt i).state, best with
      | .ended, none => some i
      | .ended, some j => if (s.guestAt i).ended.getD 0 < (s.guestAt j).ended.getD 0 then some i else best
      | _, _ => best)
    none

/-- The slot a new client takes: the lowest FREE one, else the oldest ENDED one (R147). -/
def State.newGuestSlot (s : State) : Option (Fin 64) :=
  match allSlots.find? fun i => (s.guestAt i).state == .free with
  | some i => some i
  | none => s.oldestEnded

/-- A new client's entry (R147). -/
def State.newGuest (s : State) (address : Nat) : GuestEntry :=
  { address := some address, state := .admitted, sessionEnd := some (s.now + Config.sessionLife)
    bucket := Config.bucketFull, allowance := Config.dayAllowance, strikes := 0, ended := none }

/-- A readmitted client's entry (R147). -/
def State.readmitted (s : State) (e : GuestEntry) : GuestEntry :=
  { e with
    state := .admitted, sessionEnd := some (s.now + Config.sessionLife), bucket := Config.bucketFull, ended := none }

/-- The cases of R146, once the client's entry is known. -/
def State.assocWork (address : Nat) (s : State) : State :=
  let own := s.guestOf address
  let e := match own with | some i => s.guestAt i | none => GuestEntry.vacant
  if s.serves && e.state == .admitted then s.emit (.accessPoint (.admission address))
  else if s.closed then s.refuse address .closed
  else if !s.serves || !s.uplinkUp then s.refuse address .noUplink
  else if Config.pauseMark ≤ s.roster.pressure then s.refuse address .paused
  else if e.state == .evicted then s.refuse address .evicted
  else if e.state == .exhausted || (e.state == .ended && e.allowance < Config.minPacket) then s.refuse address .allowance
  else
    match own with
    | some i => (s.setGuest i (s.readmitted e)).emit (.accessPoint (.admission address))
    | none =>
      match s.newGuestSlot with
      | some i => (s.setGuest i (s.newGuest address)).emit (.accessPoint (.admission address))
      | none => s.refuse address .full

/-- ASSOC (R146). -/
def State.doAssoc (address : Nat) (s : State) : State := s.fromAp (State.assocWork address)

/-! ## Policing (R148 to R151) -/

/-- A range covers an address (R149). -/
def Range.covers (r : Range) (a : Nat) : Bool := r.base ≤ a && a < r.base + r.size

/-- The profile's intercept ranges that cover an address, by number (R149). -/
def State.hits (s : State) (a : Nat) : Vector Bool 8 := Vector.ofFn fun i => s.start.profile.ranges[i.val].covers a

/-- An intercept hit (R149): dropped, the touched flags set, INTERCEPT_TOUCHED raised, the client struck and at the third
strike evicted. -/
def State.interceptHit (s : State) (i : Fin 64) (hits : Vector Bool 8) : State :=
  let s1 := s.onGuest fun g => { g with touched := Vector.ofFn fun k => g.touched[k.val] || hits[k.val] }
  let s2 := s1.countPoliced.raise .interceptTouched
  let e := s2.guestAt i
  if e.strikes + 1 < Config.strikesOut then s2.setGuest i { e with strikes := e.strikes + 1 }
  else
    ((s2.setGuest i { e with strikes := Config.strikesOut, state := .evicted, sessionEnd := none }).removeFlows fun f =>
      f.slot == i).emit (.accessPoint (.drop (e.address.getD 0)))

/-- The allowance test (R151), after the bucket has been charged. -/
def State.chargeOut (s : State) (i : Fin 64) (p : GuestPacket) : State :=
  let e := s.guestAt i
  if e.allowance < p.data.length then (s.setGuest i { e with state := .exhausted }).countPoliced
  else (s.setGuest i { e with allowance := e.allowance - p.data.length }).routeGuest i p

/-- The rate test (R150). -/
def State.rateTest (s : State) (i : Fin 64) (p : GuestPacket) : State :=
  let e := s.guestAt i
  if e.bucket < p.data.length then s.countPoliced
  else (s.setGuest i { e with bucket := e.bucket - p.data.length }).chargeOut i p

/-- An outbound packet of an ADMITTED client is policed in the order of section 8.4. -/
def State.police (s : State) (i : Fin 64) (p : GuestPacket) : State :=
  if p.data.length < Config.minPacket || Config.maxPacket < p.data.length then s.countPoliced
  else
    let hits := s.hits p.dest
    if hits.toList.any id then s.interceptHit i hits else s.rateTest i p

def State.packetOutWork (p : GuestPacket) (s : State) : State :=
  if !s.serves then s.countPoliced
  else
    match s.guestOf p.address with
    | some i => if (s.guestAt i).state = .admitted then s.police i p else s.countPoliced
    | none => s.countPoliced

/-- GUEST_PACKET_OUT (R148). -/
def State.doPacketOut (p : GuestPacket) (s : State) : State := s.fromAp (State.packetOutWork p)

/-- BUCKET_REFILL (R150): at each multiple of 4 ms of running time. -/
def State.doRefill (s : State) : State :=
  if s.now < s.guest.refillAt then s
  else
    s.onGuest fun g =>
      { g with
        table := Vector.ofFn fun i =>
          let e := g.table[i.val]
          if e.joined then { e with bucket := min (e.bucket + Config.bucketStep) Config.bucketFull } else e
        refillAt := (s.now / Config.bucketPeriod + 1) * Config.bucketPeriod }

/-! ## Inbound packets (R140, R152) -/

/-- The Guest Unit's part of an inbound packet for an ADMITTED client (R152). It goes to the access point with the flow's far
address and port as its source (DESIGN CHOICE, notes/assumptions/63.md). -/
def State.chargeIn (s : State) (f : GuestFlow) (data : List Byte) : State :=
  let e := s.guestAt f.slot
  if e.allowance < data.length then (s.setGuest f.slot { e with state := .exhausted }).countPoliced
  else
    (s.setGuest f.slot { e with allowance := e.allowance - data.length }).emit
      (.accessPoint (.packet (e.address.getD 0) f.port f.dest f.destPort data))

/-- The router's part of an inbound packet (R140). -/
def State.packetIn (s : State) (port : Nat) (data : List Byte) : State :=
  if port < Config.firstPort || Config.firstPort + Config.maxFlows ≤ port then s.dropGuest
  else
    match s.router.flow (port - Config.firstPort) with
    | none => s.dropGuest
    | some f =>
      if (s.guestAt f.slot).state = .admitted then (s.setFlow { f with lastUsed := s.now }).chargeIn f data
      else s.dropGuest

/-! ## The day roll (R155) -/

/-- One entry at a day roll. A freed entry's bucket is 0 (DESIGN CHOICE, notes/assumptions/62.md). -/
def GuestEntry.roll (e : GuestEntry) : GuestEntry :=
  match e.state with
  | .free => e
  | .ended => .vacant
  | .evicted => .vacant
  | .admitted => { e with allowance := Config.dayAllowance, strikes := 0 }
  | .exhausted => { e with state := .admitted, allowance := Config.dayAllowance, strikes := 0 }

def State.rollGuests (s : State) : State :=
  s.onGuest fun g => { g with table := Vector.ofFn fun i => g.table[i.val].roll }

/-! ## The closed condition begins or ends with the night window or a day drain (R132, R154) -/

/-- The guest quantum has become 0 (R132, R154): the clients end and the GUEST deficit is 0. -/
def State.shutGuests (s : State) : State := (s.endGuests true).onRouter fun r => { r with guestDeficit := 0 }

end Sys2Proof.Machine
end

