-- ==== Sys2Proof/Machine/GuestCommands.lean ====
section
/-! DEFINITION. The commands of the Guest Unit (chapter 8). -/

namespace Sys2Proof.Machine

/-- ASSOC (R146). -/
def execAssoc (address : Nat) (s : State) : Result := run (State.doAssoc address) s

/-- DISASSOC (R153). -/
def execDisassoc (address : Nat) (s : State) : Result := run (State.doDisassoc address) s

/-- GUEST_PACKET_OUT (R148). -/
def execGuestPacketOut (packet : GuestPacket) (s : State) : Result := run (State.doPacketOut packet) s

/-- AP_RESET (R154). -/
def execApReset (s : State) : Result := run State.doApReset s

/-- STATUS (R190). -/
def execStatus (s : State) : Result := run State.doStatus s

/-- GUEST_FRAME_BAD (R190). -/
def execGuestFrameBad (s : State) : Result := run State.doGuestBad s

/-- AP_LINK_LOST (R154). -/
def execApLinkLost (s : State) : Result := run State.doApLost s

/-- BUCKET_REFILL (R150). -/
def execBucketRefill (s : State) : Result := run State.doRefill s

/-- SESSION_END (R153). -/
def execSessionEnd (slot : Fin 64) (s : State) : Result := run (State.doSessionEnd slot) s

end Sys2Proof.Machine
end

