-- ==== Sys2Proof/Machine/ItemCore.lean ====
section
/-! DEFINITION. The Item Table's records, watch list, seen-window, touched list and deferred list, and the applying of SHOWN
(chapter 2). HOLD, price sets and pulls, which tell the Label Radio Controller, are in Items.lean and Pull.lean. -/

namespace Sys2Proof.Machine

/-! ## Records in code order (R25) -/

/-- Put a record into its place in code order, replacing a record of the same code. -/
def putRecord (r : ItemRecord) : List ItemRecord → List ItemRecord
  | [] => [r]
  | x :: xs =>
    if r.code < x.code then r :: x :: xs
    else if r.code = x.code then r :: xs
    else x :: putRecord r xs

def State.putRecord (s : State) (r : ItemRecord) : State :=
  s.onItems fun t => { t with records := Sys2Proof.Machine.putRecord r t.records }

def State.removeRecord (s : State) (code : Nat) : State :=
  s.onItems fun t => { t with records := t.records.filter fun r => !(r.code == code) }

/-! ## The seen-window (R40) -/

/-- Insert a version into an ascending list, once. -/
def insertVersion (v : Nat) : List Nat → List Nat
  | [] => [v]
  | x :: xs => if v < x then v :: x :: xs else if v = x then x :: xs else x :: insertVersion v xs

/-- A rises through consecutive marks (R40). -/
def advance (a : Nat) : List Nat → Nat × List Nat
  | [] => (a, [])
  | v :: vs => if v = a + 1 then advance v vs else (a, v :: vs)

/-- Mark a version seen: nothing at or below A or more than 256 above it; else it is recorded and A advances (R40). -/
def ItemTable.markSeen (t : ItemTable) (v : Nat) : ItemTable :=
  if t.applied < v && v ≤ t.applied + Config.seenWindow then
    let r := advance t.applied (insertVersion v t.seen)
    { t with applied := r.1, seen := r.2 }
  else t

/-- A takes a pull server's figure: marks at or below it are discarded, those above it kept in the window, and A advances
through consecutive marks (R48). Marks above the new window are dropped (DESIGN CHOICE, notes/assumptions/55.md). -/
def ItemTable.takeApplied (t : ItemTable) (a : Nat) : ItemTable :=
  let r := advance a (t.seen.filter fun v => a < v && v ≤ a + Config.seenWindow)
  { t with applied := r.1, seen := r.2 }

/-! ## The watch list (R38) -/

/-- Remove an item's watch entry, without expiry. -/
def ItemTable.unwatch (t : ItemTable) (code : Nat) : ItemTable :=
  { t with watch := t.watch.filter fun w => !(w.code == code) }

/-- The watch list has room for one more entry. -/
def ItemTable.watchRoom (t : ItemTable) : Bool := t.watch.length < Config.maxWatch

/-- Start a watch entry at the tail where the list has room. -/
def ItemTable.startWatch (t : ItemTable) (code version now : Nat) : ItemTable :=
  if t.watchRoom then
    { t with watch := t.watch ++ [{ code := code, version := version, deadline := now + Config.watchLife }] }
  else t

/-! ## The touched list (R49) -/

def Frame.isPull (f : Frame) : Bool :=
  match f.payload with
  | .pull => true
  | _ => false

/-- Place a PULL frame for a target in slot 7 (R45). While SILENCED nothing is placed: the entry to SILENCED abandons the pull
(R13, R45). -/
def State.placePull (s : State) (n : Station) : State :=
  if s.silenced then s else s.place (.frame { dest := some n, payload := .pull, applied := false })

/-- Change the pull under way. -/
def State.setPull (s : State) (p : Option Pull) : State := s.onItems fun t => { t with pull := p }

/-- A code joins the touched list while a pull is under way (R49). The 129th repeats the pull once for the same target; with the
repeat flag set the list takes no more codes. -/
def State.touch (s : State) (code : Nat) : State :=
  match s.items.pull with
  | none => s
  | some p =>
    if p.full || p.touched.contains code then s
    else if p.touched.length < Config.maxTouched then s.setPull (some { p with touched := p.touched ++ [code] })
    else if p.repeated then s.setPull (some { p with full := true })
    else
      ((s.withdraw .pull Frame.isPull).setPull
        (some { p with repeated := true, touched := [], delivered := [], phase := .requested, deadline := none })).placePull
        p.target

/-! ## Release and SHOWN (R33) -/

/-- A pending increase is released: the charge state becomes the book state, the pending part, the watch entry and the overdue
flag go (R33). -/
def State.releaseIncrease (s : State) (r : ItemRecord) : State :=
  (s.putRecord { r with charge := r.book, pending := none, overdue := false }).onItems fun t => t.unwatch r.code

/-- Take a station out of a record's outstanding set, releasing the increase when the set empties (R33, R35). -/
def State.confirmStation (s : State) (r : ItemRecord) (p : Pending) (n : Station) : State :=
  let left := dropStation p.outstanding n
  if left = 0#8 then s.releaseIncrease r
  else s.putRecord { r with pending := some { p with outstanding := left } }

/-- Apply SHOWN (R33): it acts only on a pending part it covers, for a station that is outstanding. -/
def State.applyShown (s : State) (item version : Nat) (n : Station) : State :=
  match s.items.find item with
  | none => s
  | some r =>
    match r.pending with
    | none => s
    | some p =>
      if p.version ≤ version && hasStation p.outstanding n then (s.confirmStation r p n).touch item else s

/-! ## Own frames (R36, R37) -/

/-- Two own frames that the deferred list keeps one of: two HOLDs, or two SHOWNs, of one item (R37). -/
def sameDeferred (a b : Payload) : Bool :=
  match a, b with
  | .hold i _ _, .hold j _ _ => i == j
  | .shown i _ _, .shown j _ _ => i == j
  | _, _ => false

/-- Replace the first element a test picks; none where no element meets it. -/
def replaceFirst (test : Payload → Bool) (x : Payload) : List Payload → Option (List Payload)
  | [] => none
  | y :: ys => if test y then some (x :: ys) else (replaceFirst test x ys).map (y :: ·)

/-- A frame joins the deferred list (R37): in the place of a frame of its kind for the item, else at the tail; at 128 the oldest
is dropped. -/
def joinDeferred (xs : List Payload) (p : Payload) : List Payload :=
  match replaceFirst (sameDeferred p) p xs with
  | some ys => ys
  | none =>
    let ys := xs ++ [p]
    ys.drop (ys.length - Config.maxDeferred)

def State.defer (s : State) (p : Payload) : State := s.onItems fun t => { t with deferred := joinDeferred t.deferred p }

/-- Place an own SHOWN or HOLD in slots 4 and 5 (R36). -/
def State.placeOwn (s : State) (p : Payload) (applied : Bool) : State :=
  s.place (.frame { dest := none, payload := p, applied := applied })

/-- Produce this station's own SHOWN (R36): applied at once while SILENCED (and deferred) or with the alone flag set, else when
its slot reports. -/
def State.ownShown (s : State) (item version : Nat) : State :=
  let p := Payload.shown item version s.self
  if s.silenced then (s.applyShown item version s.self).defer p
  else if s.line.alone then (s.applyShown item version s.self).placeOwn p true
  else s.placeOwn p false

end Sys2Proof.Machine
end

