-- ==== Sys2Proof/Machine/Labels.lean ====
section
/-! DEFINITION. The Label Radio Controller (chapter 6): targets, the update queue, radio exchanges, the confirmation check and
the READY pass. Service requests are in LabelRequests.lean. -/

namespace Sys2Proof.Machine

/-! ## The table (R105) -/

/-- The label of a radio id. -/
def HeldMemory.labelOf (h : HeldMemory) (radioId : Nat) : Option Label := h.labels.find? fun l => l.radioId == radioId

/-- The label at an index. -/
def HeldMemory.labelAt (h : HeldMemory) (index : Nat) : Option Label := h.labels.find? fun l => l.index == index

/-- The labels bound here to an item, in ascending index. -/
def HeldMemory.bound (h : HeldMemory) (item : Nat) : List Label := h.labels.filter fun l => l.item == item

/-- Put a label into its place in index order, replacing one of the same index. -/
def putLabel (l : Label) : List Label → List Label
  | [] => [l]
  | x :: xs =>
    if l.index < x.index then l :: x :: xs
    else if l.index = x.index then l :: xs
    else x :: putLabel l xs

def State.setLabel (s : State) (l : Label) : State := s.onHeld fun h => { h with labels := putLabel l h.labels }

/-- The lowest free index (R105), looked for from `i` on in a table in index order. -/
def freeIndex (i : Nat) : List Label → Nat
  | [] => i
  | l :: ls => if l.index = i then freeIndex (i + 1) ls else i

/-- The two counts of R122. -/
def HeldMemory.faultedCount (h : HeldMemory) : Nat := (h.labels.filter fun l => l.state == .faulted).length
def HeldMemory.lowBatteryCount (h : HeldMemory) : Nat := (h.labels.filter fun l => l.battery == 0).length

/-! ## Targets (R106) -/

/-- What a label should show. -/
structure Target where
  version  : Nat
  headline : Nat
  blocked  : Bool
  deriving DecidableEq, Repr

/-- The target of an item's labels, from its record as it stands (R106). -/
def State.target (s : State) (item : Nat) : Target :=
  match s.items.find item with
  | some r => { version := r.version, headline := headline r.book, blocked := r.blocked }
  | none => { version := 0, headline := 0, blocked := true }

/-- The label needs updating (R106). -/
def State.needsUpdating (s : State) (l : Label) : Bool :=
  let t := s.target l.item
  if t.blocked then !l.shownBlocked else l.shownVersion < t.version

/-! ## The queue (R107) -/

def State.enqueueLabel (s : State) (index : Nat) : State := s.onLabels fun u => { u with queue := u.queue ++ [index] }
def State.unqueueLabel (s : State) (index : Nat) : State :=
  s.onLabels fun u => { u with queue := u.queue.filter fun i => !(i == index) }

/-- A label enters QUEUED at the tail. -/
def State.queueLabel (s : State) (l : Label) : State := (s.setLabel { l with state := .queued }).enqueueLabel l.index

/-- A label goes to QUEUED at the tail if it needs updating, else to CURRENT. -/
def State.settleLabel (s : State) (l : Label) : State :=
  if s.needsUpdating l then s.queueLabel l else s.setLabel { l with state := .current }

/-! ## The radio exchange (R110) -/

/-- Start an exchange with the head of the queue, when the controller is not held and no exchange is under way (R110). -/
def State.startExchange (s : State) : State :=
  if s.labels.held || s.labels.exchange.isSome then s
  else
    match s.labels.queue with
    | [] => s
    | i :: rest =>
      match s.held.labelAt i with
      | none => s.onLabels fun u => { u with queue := rest }
      | some l =>
        let t := s.target l.item
        let e : Exchange :=
          { index := i, radioId := l.radioId, headline := t.headline, version := t.version, blocked := t.blocked
            deadline := s.now + Config.labelWait, changed := false, void := false }
        (((s.setLabel { l with state := .awaiting }).onLabels fun u =>
          { u with queue := rest, exchange := some e }).emit
          (.labelUpdate l.radioId t.headline t.version t.blocked))

/-- The exchange that serves the label at an index becomes void (R114). -/
def State.voidExchange (s : State) (index : Nat) : State :=
  s.onLabels fun u =>
    { u with exchange := u.exchange.map fun e => if e.index = index then { e with void := true } else e }

/-! ## The confirmation check (R115) -/

/-- Whether a label shows a version for the check: a FAULTED label shows nothing. -/
def Label.shows (l : Label) (version : Nat) : Bool := !(l.state == .faulted) && version ≤ l.shownVersion

/-- The confirmation check for an item: SHOWN is produced when every condition of R115 holds. -/
def State.confirmCheck (s : State) (item : Nat) : State :=
  match (s.items.find item).bind (·.pending) with
  | none => s
  | some p =>
    if hasStation p.outstanding s.self && !(s.held.bound item).isEmpty && (s.held.bound item).all (·.shows p.version) then
      s.ownShown item p.version
    else s

/-! ## Item changed (R109) -/

/-- One label's part of an item-changed notice (R109). -/
def State.labelChanged (s : State) (l : Label) : State :=
  match l.state with
  | .current => if s.needsUpdating l then s.queueLabel l else s
  | .queued => if s.needsUpdating l then s else (s.unqueueLabel l.index).setLabel { l with state := .current }
  | .retryWait => s.settleLabel { l with notBefore := none, attempts := 0 }
  | .awaiting =>
    s.onLabels fun u =>
      { u with exchange := u.exchange.map fun e => if e.index = l.index then { e with changed := true } else e }
  | .faulted => s

/-- An item-changed notice (R109): the labels bound here in ascending index, then the confirmation check; an empty queue that
gained a label starts an exchange (R110). While held the controller takes no action (R108), and with no label bound here the
notice has no effect. -/
def State.itemChanged (s : State) (item : Nat) : State :=
  if s.labels.held || (s.held.bound item).isEmpty then s
  else (((s.held.bound item).foldl State.labelChanged s).confirmCheck item).startExchange

/-! ## The ends of an exchange (R111, R112) -/

/-- At the end of a void exchange a rebound record that is still AWAITING is tested against its target (R114). -/
def State.endVoid (s : State) (index : Nat) : State :=
  match s.held.labelAt index with
  | some l => if l.state = .awaiting then s.settleLabel l else s
  | none => s

/-- LABEL_ACK (R111). -/
def State.doLabelAck (radioId : Nat) (battery : Fin 4) (s : State) : State :=
  match s.labels.exchange with
  | none => s
  | some e =>
    if e.radioId ≠ radioId then s
    else
      let s1 := s.onLabels fun u => { u with exchange := none }
      if e.void then (s1.endVoid e.index).startExchange
      else
        match s1.held.labelAt e.index with
        | none => s1.startExchange
        | some l =>
          let l1 : Label :=
            { l with
              shownVersion := e.version, shownHeadline := e.headline, shownBlocked := e.blocked, attempts := 0
              battery := battery, contact := some s1.stamp }
          ((s1.settleLabel l1).confirmCheck l1.item).startExchange

/-- The waits of R112 by the attempts made, in ms; none at the sixth. -/
def retryDelay : Nat → Option Nat
  | 1 => some 2000
  | 2 => some 8000
  | 3 => some 30000
  | 4 => some 120000
  | 5 => some 480000
  | _ => none

/-- An unanswered exchange, once it has ended (R112). -/
def State.labelUnanswered (s : State) (l : Label) (changed : Bool) : State :=
  let n := l.attempts + 1
  match retryDelay n with
  | none => (s.setLabel { l with attempts := n, state := .faulted }).raise .labelFaulted
  | some d =>
    if changed then s.settleLabel { l with attempts := 0 }
    else s.setLabel { l with attempts := n, state := .retryWait, notBefore := some (s.now + d) }

/-- UPDATE_TIMEOUT (R112). -/
def State.doUpdateTimeout (s : State) : State :=
  match s.labels.exchange with
  | none => s
  | some e =>
    if s.now < e.deadline then s
    else
      let s1 := s.onLabels fun u => { u with exchange := none }
      if e.void then (s1.endVoid e.index).startExchange
      else
        match s1.held.labelAt e.index with
        | none => s1.startExchange
        | some l => (s1.labelUnanswered l e.changed).startExchange

/-- NOT_BEFORE_EXPIRY (R113): the label rejoins the tail with its attempts kept. -/
def State.doNotBefore (index : Nat) (s : State) : State :=
  match s.held.labelAt index with
  | none => s
  | some l =>
    match l.notBefore with
    | none => s
    | some t =>
      if l.state = .retryWait && t ≤ s.now then (s.queueLabel { l with notBefore := none }).startExchange else s

/-! ## The READY pass (R108) -/

/-- One label's part of the READY pass. -/
def State.readyLabel (s : State) (l : Label) : State :=
  match l.state with
  | .current => if s.needsUpdating l then s.queueLabel l else s
  | .queued => if s.needsUpdating l then s else (s.unqueueLabel l.index).setLabel { l with state := .current }
  | _ => s

/-- The items of a list of labels, each once, in the order first met. -/
def itemsOf (ls : List Label) : List Nat :=
  ls.foldl (fun xs l => if xs.contains l.item then xs else xs ++ [l.item]) []

/-- The READY pass (R108): every label that is not FAULTED is tested, each bound item's confirmation check is made, in the order
of the items' lowest label index (DESIGN CHOICE, notes/assumptions/60.md), and the controller is held no longer. -/
def State.readyPass (s : State) : State :=
  let s1 := s.held.labels.foldl State.readyLabel s
  let s2 := (itemsOf s.held.labels).foldl State.confirmCheck s1
  (s2.onLabels fun u => { u with held := false }).startExchange

end Sys2Proof.Machine
end

