-- ==== Sys2Proof/Machine/Items.lean ====
section
/-! DEFINITION. The Item Table's HOLD frames, own-frame path, price sets and watch deadline (sections 2.2 to 2.4), with the
item-changed notices they give. -/

namespace Sys2Proof.Machine

/-! ## HOLD (R34, R35) -/

/-- The record leaves the table with its watch entry, and the Label Radio Controller is told (R31, R35, R48). -/
def State.dropRecord (s : State) (code : Nat) : State :=
  ((s.removeRecord code).onItems fun t => t.unwatch code).itemChanged code

/-- Apply a HOLD leave to a record that holds the station (R35). -/
def State.applyLeave (s : State) (r : ItemRecord) (n : Station) : State :=
  let r1 := { r with holders := dropStation r.holders n }
  let s1 :=
    match r.pending with
    | some p => if hasStation p.outstanding n then s.confirmStation r1 p n else s.putRecord r1
    | none => s.putRecord r1
  let s2 := s1.touch r.code
  if r.blocked && r1.holders == 0#8 then s2.dropRecord r.code else s2

/-- Apply HOLD (R34, R35). -/
def State.applyHold (s : State) (item : Nat) (n : Station) (join : Bool) : State :=
  match s.items.find item with
  | none => s
  | some r =>
    if join then
      if hasStation r.holders n then s
      else (s.putRecord { r with holders := addStation r.holders n }).touch item
    else if hasStation r.holders n then s.applyLeave r n
    else s

/-- Produce this station's own HOLD (R36), as `ownShown` does SHOWN. -/
def State.ownHold (s : State) (item : Nat) (join : Bool) : State :=
  let p := Payload.hold item s.self join
  if s.silenced then (s.applyHold item s.self join).defer p
  else if s.line.alone then (s.applyHold item s.self join).placeOwn p true
  else s.placeOwn p false

/-- The slot of an own SHOWN or HOLD reports (R36, R37): the frame is applied now unless it was before, and one that no peer
received joins the deferred list. -/
def State.ownOutcome (s : State) (f : Frame) (carried : Bool) : State :=
  let s1 :=
    if f.applied then s
    else
      match f.payload with
      | .shown i v n => s.applyShown i v n
      | .hold i n j => s.applyHold i n j
      | _ => s
  if carried then s1 else s1.defer f.payload

/-- The deferred list is emptied into slots 4 and 5; its frames have been applied here already (R37). -/
def State.flushDeferred (s : State) : State :=
  s.items.deferred.foldl (fun t p => t.placeOwn p true) (s.onItems fun t => { t with deferred := [] })

/-! ## Price sets (R26 to R32) -/

/-- A new state is less favourable than the charge state (R26). -/
def lessFavourable (n c : PriceState) : Bool :=
  headline c < headline n ||
    (headline n == headline c &&
      match c.multibuy, n.multibuy with
      | some _, none => true
      | some mc, some mn => mc.group * mn.count < mn.group * mc.count
      | none, _ => false)

/-- The multibuy a set may carry (R28). -/
def goodMultibuy (kind : ItemKind) (m : Multibuy) : Bool :=
  kind == .unit && 2 ≤ m.count && m.count ≤ 9 && 1 ≤ m.group && m.group ≤ Config.maxGroup

/-- A state with the three faults of R28 corrected in place. -/
def corrected (kind : ItemKind) (p : PriceState) : PriceState :=
  { p with
    markdown := min p.markdown Config.maxMarkdown
    multibuy := p.multibuy.bind fun m => if goodMultibuy kind m then some m else none }

/-- The range check of R28. A DELIST set has only its code checked. -/
def inRange (p : PriceSet) : Bool :=
  1 ≤ p.code && p.code ≤ Config.maxCode && match p.body with | some b => b.price ≤ Config.maxPrice | none => true

def State.markSeen (s : State) (version : Nat) : State := s.onItems fun t => t.markSeen version

/-- A refused set (R28, R29): marked seen, ITEM_REFUSED raised, and at the exchange station its code joins the refused list
and count (R167). -/
def State.refuseSet (s : State) (p : PriceSet) : State :=
  let s1 := (s.markSeen p.version).raise .itemRefused
  if s1.night.state = .exchanging then
    s1.onNight fun n =>
      { n with
        refused := (n.refused ++ [p.code]).take Config.maxListed
        refusedCount := bump n.refusedCount }
  else s1

/-- The record a set makes of a code with no record (R29). -/
def newRecord (p : PriceSet) (b : PriceState) : ItemRecord :=
  { code := p.code, kind := p.kind, taxClass := p.taxClass, blocked := false, overdue := false, version := p.version
    book := b, charge := b, pending := none, holders := 0#8 }

/-- The record a set with a price state makes of an existing one, and the table with the watch entry R30 gives. -/
def reprice (t : ItemTable) (now : Nat) (r : ItemRecord) (p : PriceSet) (b : PriceState) : ItemTable × ItemRecord :=
  let r1 := { r with book := b, version := p.version, kind := p.kind, taxClass := p.taxClass, blocked := false }
  if !lessFavourable b r.charge then (t.unwatch r.code, { r1 with charge := b, pending := none, overdue := false })
  else if r.holders == 0#8 then (t, { r1 with charge := b, pending := none })
  else
    let t1 := t.unwatch r.code
    (t1.startWatch r.code p.version now,
      { r1 with
        pending := some { version := p.version, outstanding := r.holders, watched := t1.watchRoom }, overdue := false })

/-- A set has changed a record (R32): the version is marked seen, the Label Radio Controller is told, and the code joins the
touched list of a pull under way. -/
def State.setChanged (s : State) (p : PriceSet) : State :=
  ((s.markSeen p.version).itemChanged p.code).touch p.code

/-- A DELIST set for an existing record (R31). -/
def State.delist (s : State) (r : ItemRecord) (p : PriceSet) : State :=
  if r.blocked then (s.putRecord { r with version := p.version }).setChanged p
  else
    let s1 := s.onItems fun t => t.unwatch r.code
    if r.holders == 0#8 then (s1.removeRecord r.code).setChanged p
    else
      (s1.putRecord
        { r with blocked := true, version := p.version, book := r.charge, pending := none, overdue := false }).setChanged p

/-- Apply one price set, whole (R27 to R32). -/
def State.applySet (s : State) (p : PriceSet) : State :=
  match s.items.find p.code with
  | some r =>
    if p.version ≤ r.version then s.markSeen p.version
    else if !inRange p then s.refuseSet p
    else
      match p.body with
      | none => s.delist r p
      | some b =>
        let x := reprice s.items s.now r p (corrected p.kind b)
        ((s.onItems fun _ => x.1).putRecord x.2).setChanged p
  | none =>
    if !inRange p then s.refuseSet p
    else
      match p.body with
      | none => s.markSeen p.version
      | some b =>
        if s.items.records.length < Config.maxItems then
          (s.putRecord (newRecord p (corrected p.kind b))).setChanged p
        else s.refuseSet p

/-! ## The watch deadline (R39) -/

/-- WATCH_EXPIRY (R39): the head entry goes, its record becomes overdue and INCREASE_OVERDUE is raised. -/
def State.doWatchExpiry (s : State) : State :=
  match s.items.watch with
  | [] => s
  | w :: rest =>
    if s.now < w.deadline then s
    else
      let s1 := s.onItems fun t => { t with watch := rest }
      let s2 :=
        match s1.items.find w.code with
        | some r => s1.putRecord { r with overdue := true }
        | none => s1
      s2.raise .increaseOverdue

end Sys2Proof.Machine
end

