-- ==== Sys2Proof/Machine/Pull.lean ====
section
/-! DEFINITION. Table pulls: the serving side (section 2.6), the requesting side (section 2.7), the repair mark (R42), the
lead counts (R41), and Start Control's PULL and READY states (R181). -/

namespace Sys2Proof.Machine

/-! ## The serving side (R43, R44) -/

/-- A CHUNK of a serving, not a BUSY one. -/
def Frame.isServing (f : Frame) : Bool :=
  match f.payload with
  | .chunk c => !(c.status == .busy)
  | _ => false

def Draft.isNextChunk : Draft → Bool
  | .nextChunk => true
  | _ => false

/-- Set the serving side and withdraw its CHUNK, kept or in slot 10 (R44). -/
def State.setServing (s : State) (v : Option Serving) : State :=
  ((s.onLine fun l => { l with kept := l.kept.filter fun d => !d.isNextChunk }).onItems fun t =>
    { t with serving := v }).withdraw .chunk Frame.isServing

/-- Place the next CHUNK of the serving; while SILENCED it ends at once, which abandons the serving (R13, R44). -/
def State.placeNext (s : State) : State := if s.silenced then s.setServing none else s.place .nextChunk

/-- Answer a PULL with a BUSY CHUNK (R44). Its outcome changes nothing. -/
def State.busyChunk (s : State) (n : Station) : State :=
  if s.silenced then s
  else
    s.place (.frame
      { dest := some n, payload := .chunk { status := .busy, records := [], applied := 0 }, applied := false })

/-- A PULL delivered to the serving side (R43, R44). -/
def State.servePull (s : State) (n : Station) : State :=
  if s.items.pull.isSome then s.busyChunk n
  else
    match s.items.serving with
    | none => (s.setServing (some { requester := n, cursor := 0 })).placeNext
    | some v =>
      if v.requester = n then (s.setServing (some { requester := n, cursor := 0 })).placeNext
      else s.busyChunk n

/-- Slot 10 reports on a CHUNK of the serving (R43, R44). -/
def State.chunkOutcome (s : State) (c : Chunk) (carried : Bool) : State :=
  if c.status == .busy || s.items.serving.isNone then s
  else if !carried || c.status.isEnd then s.setServing none
  else s.placeNext

/-! ## READY (R181) -/

/-- Enter READY: the Label Radio Controller makes its READY pass (R108, R181). -/
def State.enterReady (s : State) : State := (s.onStart fun c => { c with phase := .ready }).readyPass

/-- Start Control in PULL (R181): READY once the requesting side is NONE and the mark clear, or, with TABLE_UNSURE, once no pull
can start for want of a PRESENT peer. -/
def State.checkReady (s : State) : State :=
  if s.start.phase = .pull && s.items.pull.isNone then
    if !s.items.repairMark then s.enterReady
    else if !s.anyPresent then (s.raise .tableUnsure).enterReady
    else s
  else s

/-! ## Starting a pull (R42, R45) -/

/-- The first target: the lowest PRESENT peer at or above this station's A, else the lowest PRESENT peer (R45). -/
def State.firstTarget (s : State) : Option Station :=
  let ahead (n : Station) : Bool :=
    match s.entry n with
    | some e => e.presence == .present && s.items.applied ≤ e.beacon.applied
    | none => false
  match allStations.find? ahead with
  | some n => some n
  | none => allStations.find? s.present

/-- The mark is acted on where the requesting side is NONE, the standing not SILENCED and a peer PRESENT (R42). -/
def State.tryPull (s : State) : State :=
  if s.items.repairMark && s.items.pull.isNone && !s.silenced then
    match s.firstTarget with
    | none => s
    | some n =>
      let p : Pull :=
        { phase := .requested, target := n, tried := 0#8, repeated := false, touched := [], full := false
          delivered := [], unsure := false, deadline := none }
      (s.onItems fun t => { t with repairMark := false, pull := some p }).placePull n
  else s

/-- A request for a repair pull (R42). -/
def State.requestRepair (s : State) : State := (s.onItems fun t => { t with repairMark := true }).tryPull

/-- The requesting side has returned to NONE: a set mark starts a new pull, and Start Control is told (R42, R181). -/
def State.pullEnded (s : State) : State := s.tryPull.checkReady

/-! ## Failure and abandonment (R45, R47) -/

/-- The current target fails (R47). -/
def State.targetFailed (s : State) (p : Pull) : State :=
  let tried := addStation p.tried p.target
  let s1 := s.withdraw .pull Frame.isPull
  match allStations.find? fun n => s.present n && !hasStation tried n with
  | some n =>
    (s1.setPull (some
      { p with phase := .requested, target := n, tried := tried, delivered := [], deadline := none })).placePull n
  | none => ((s1.setPull none).raise .tableUnsure).pullEnded

/-- Entering SILENCED abandons a pull and sets the repair mark again (R45). TABLE_UNSURE is not raised, whatever found no room
(DESIGN CHOICE, notes/assumptions/68.md). -/
def State.abandonPull (s : State) : State :=
  match s.items.pull with
  | none => s
  | some _ => (s.onItems fun t => { t with pull := none, repairMark := true }).checkReady

/-- Slot 7 reports on a PULL (R45, R47): CARRIED starts the pull timer, UNHEARD fails the target. A PULL is known by its
destination alone, so one left from a pull that has completed counts for a new pull of the same target (DESIGN CHOICE,
notes/assumptions/76.md). -/
def State.pullOutcome (s : State) (dest : Option Station) (carried : Bool) : State :=
  match s.items.pull with
  | none => s
  | some p =>
    if dest ≠ some p.target then s
    else if carried then s.setPull (some { p with deadline := some (s.now + Config.pullWait) })
    else s.targetFailed p

/-- PULL_TIMER_EXPIRY (R47). -/
def State.doPullTimer (s : State) : State :=
  match s.items.pull with
  | none => s
  | some p =>
    match p.deadline with
    | none => s
    | some d => if d ≤ s.now then s.targetFailed p else s

/-- A peer has left PRESENT (R41, R47): its lead count returns to 0, and a pull of which it is the target goes on to the next. -/
def State.peerLeft (s : State) (n : Station) : State :=
  let s1 := s.onItems fun t => { t with leads := t.leads.set n.val 0 }
  match s1.items.pull with
  | none => s1
  | some p => if p.target = n then s1.targetFailed p else s1

/-- A peer has become ABSENT: a serving of it is abandoned (R44). -/
def State.servingLost (s : State) (n : Station) : State :=
  match s.items.serving with
  | none => s
  | some v => if v.requester = n then s.setServing none else s

/-! ## Reconciliation (R50) -/

/-- One record's part of the reconciliation: HOLD join, HOLD leave, SHOWN. -/
def State.reconcileOne (s : State) (code : Nat) : State :=
  match s.items.find code with
  | none => s
  | some r =>
    let bound := !(s.held.bound code).isEmpty
    let holder := hasStation r.holders s.self
    let s1 := if bound && !holder then s.ownHold code true else if holder && !bound then s.ownHold code false else s
    s1.confirmCheck code

/-- The reconciliation over the table in code order, then the bound items that have no record, in the order of their lowest label
index (DESIGN CHOICE, notes/assumptions/60.md). -/
def State.reconcile (s : State) : State :=
  let s1 := (s.items.records.map (·.code)).foldl State.reconcileOne s
  (itemsOf s1.held.labels).foldl (fun t i => if (t.items.find i).isNone then t.itemChanged i else t) s1

/-! ## Taking a CHUNK (R46, R48) -/

/-- Put a snapshot in the table (R46): its watch entry is started anew where it has a pending part and the list has room. -/
def State.putSnapshot (s : State) (r : ItemRecord) : State :=
  let t := s.items.unwatch r.code
  match r.pending with
  | none => (s.onItems fun _ => t).putRecord r
  | some p =>
    (s.onItems fun _ => t.startWatch r.code p.version s.now).putRecord
      { r with pending := some { p with watched := t.watchRoom } }

/-- A code counts as delivered (R46). -/
def State.delivered (s : State) (code : Nat) : State :=
  s.onItems fun t => { t with pull := t.pull.map fun p => { p with delivered := p.delivered ++ [code] } }

/-- One record of a CHUNK (R46). A pull that has just been repeated takes no more of the CHUNK. -/
def State.takeRecord (s : State) (r : ItemRecord) : State :=
  match s.items.pull with
  | none => s
  | some p =>
    if p.phase ≠ .receiving || p.touched.contains r.code then s
    else
      match s.items.find r.code with
      | some old =>
        if r.version < old.version then s.delivered r.code
        else
          let s1 := (s.putSnapshot r).delivered r.code
          if old.version ≠ r.version || old.blocked ≠ r.blocked then s1.itemChanged r.code else s1
      | none =>
        if s.items.records.length < Config.maxItems then ((s.putSnapshot r).delivered r.code).itemChanged r.code
        else s.setPull (some { p with unsure := true })

/-- The end mark completes the pull (R48). The touched list is given up before the reconciliation, which would only add to it
what is emptied at once after. The records removed give their notices in code order (DESIGN CHOICE, notes/assumptions/60.md),
and a PULL still in slot 7 stays there (DESIGN CHOICE, notes/assumptions/76.md). -/
def State.completePull (s : State) (p : Pull) (a : Nat) : State :=
  let gone := (s.items.records.map (·.code)).filter fun c => !p.delivered.contains c && !p.touched.contains c
  let s1 := (s.setPull none).onItems fun t => t.takeApplied a
  let s2 := gone.foldl State.dropRecord s1
  let s3 := if p.unsure || p.full then s2.raise .tableUnsure else s2
  s3.reconcile.pullEnded

/-- A CHUNK taken from the Item inbox (R46, R48). -/
def State.chunkTaken (s : State) (n : Station) (c : Chunk) : State :=
  match s.items.pull with
  | none => s
  | some p =>
    if p.target ≠ n then s
    else if c.status == .busy then s.targetFailed p
    else if c.records.isEmpty && !c.status.isEnd then s
    else
      let s1 := s.setPull (some { p with phase := .receiving, deadline := some (s.now + Config.pullWait) })
      let s2 := c.records.foldl State.takeRecord s1
      match s2.items.pull with
      | none => s2
      | some q => if c.status.isEnd && q.phase = .receiving then s2.completePull q c.applied else s2

/-! ## Gap detection (R41) and the Item inbox (R16, R17, R171) -/

/-- A beacon's applied-through version (R41). -/
def State.leadHeard (s : State) (n : Station) (a : Nat) : State :=
  if s.items.applied < a then
    let k := s.items.leads[n.val] + 1
    if 3 ≤ k then (s.onItems fun t => { t with leads := Vector.replicate 8 0 }).requestRepair
    else s.onItems fun t => { t with leads := t.leads.set n.val k }
  else s.onItems fun t => { t with leads := t.leads.set n.val 0 }

/-- PRICES_DONE(L) handed on to the Item Table (R41). -/
def State.compareDone (s : State) (l : Nat) : State := if s.items.applied < l then s.requestRepair else s

/-- PRICES_DONE taken by the Night Exchange (R171): it waits for the frames in the Item inbox. -/
def State.handDone (s : State) (l : Nat) : State :=
  match s.line.itemInbox with
  | [] => s.compareDone l
  | fs => s.onItems fun t => { t with doneWaits := t.doneWaits ++ [{ version := l, frames := fs.length }] }

/-- After a frame has been taken from the Item inbox: each waiting PRICES_DONE has one frame fewer before it, and an inbox
that has become empty with the repair-after-drain mark set brings a repair (R17, R171), after the taken frame's own work (DESIGN
CHOICE, notes/assumptions/85.md). -/
def State.afterItemTake (s : State) : State :=
  let waits := s.items.doneWaits.map fun w => { w with frames := w.frames - 1 }
  let s1 := s.onItems fun t => { t with doneWaits := waits.filter fun w => 0 < w.frames }
  let s2 := (waits.filter fun w => w.frames == 0).foldl (fun t w => t.compareDone w.version) s1
  if s2.line.itemInbox.isEmpty && s2.line.repairAfterDrain then
    (s2.onLine fun l => { l with repairAfterDrain := false }).requestRepair
  else s2

/-- Take the head of the Item inbox where it is a PRICE (R27). -/
def State.doTakePrice (s : State) : State :=
  match s.line.itemInbox with
  | { payload := .price p, .. } :: rest => ((s.onLine fun l => { l with itemInbox := rest }).applySet p).afterItemTake
  | _ => s

/-- Take the head of the Item inbox where it is a SHOWN (R33). -/
def State.doTakeShown (s : State) : State :=
  match s.line.itemInbox with
  | { payload := .shown i v n, .. } :: rest =>
    ((s.onLine fun l => { l with itemInbox := rest }).applyShown i v n).afterItemTake
  | _ => s

/-- Take the head of the Item inbox where it is a HOLD (R34, R35). -/
def State.doTakeHold (s : State) : State :=
  match s.line.itemInbox with
  | { payload := .hold i n j, .. } :: rest =>
    ((s.onLine fun l => { l with itemInbox := rest }).applyHold i n j).afterItemTake
  | _ => s

/-- Take the head of the Item inbox where it is a CHUNK (R46). -/
def State.doTakeChunk (s : State) : State :=
  match s.line.itemInbox with
  | { sender := n, payload := .chunk c } :: rest =>
    ((s.onLine fun l => { l with itemInbox := rest }).chunkTaken n c).afterItemTake
  | _ => s

end Sys2Proof.Machine
end

