-- ==== Sys2Proof/Machine/ItemCommands.lean ====
section
/-! DEFINITION. The commands of the Item Table (chapter 2). -/

namespace Sys2Proof.Machine

/-- TAKE_PRICE (R27). -/
def execTakePrice (s : State) : Result := run State.doTakePrice s

/-- TAKE_SHOWN (R33). -/
def execTakeShown (s : State) : Result := run State.doTakeShown s

/-- TAKE_HOLD (R34, R35). -/
def execTakeHold (s : State) : Result := run State.doTakeHold s

/-- WATCH_EXPIRY (R39). -/
def execWatchExpiry (s : State) : Result := run State.doWatchExpiry s

/-- TAKE_CHUNK (R46). -/
def execTakeChunk (s : State) : Result := run State.doTakeChunk s

/-- PULL_TIMER_EXPIRY (R47). -/
def execPullTimerExpiry (s : State) : Result := run State.doPullTimer s

end Sys2Proof.Machine
end

