-- ==== Sys2Proof/Machine/Journal.lean ====
section
/-! DEFINITION. The Sale Journal (chapter 5): room, writing, notes, the owner side of pulls and releases. The commands
TAKE_JPULL and TAKE_JREL are here. -/

namespace Sys2Proof.Machine

/-! ## Room (R90, R94, R96, R97) -/

/-- Present lanes whose basket is not CLOSED. -/
def State.openBaskets (s : State) : Nat :=
  (allLanes.filter fun l => s.lanePresent l && !(decide ((s.lane l).basket.state = .closed))).length

/-- Reserved cells (R94). -/
def State.reserved (s : State) : Nat := Config.reservation * s.openBaskets

/-- Numbers left (R90). -/
def State.numbersLeft (s : State) : Nat := Config.lastSequence - s.held.nextSeq

/-- A reservation can be given (R94). -/
def State.hasRoom (s : State) : Bool :=
  s.held.used + s.reserved + Config.reservation ≤ Config.journalCells && s.openBaskets < s.numbersLeft

/-- The journal-full condition: a further OPEN would be refused (R97). -/
def State.journalFull (s : State) : Bool := !s.hasRoom

/-- A note fits in the unreserved room (R96). -/
def State.noteFits (s : State) : Bool :=
  s.held.used + s.reserved + 1 ≤ Config.journalCells && s.openBaskets < s.numbersLeft

/-- Test the journal-full condition and tell the Fault Record (R97, R185): the flag drops unless a dropped note holds it. -/
def State.testJournal (s : State) : State :=
  if s.journalFull then s.raise .journalFull
  else if s.faults.journalHold then s
  else s.dropFlag .journalFull

/-! ## Writing (R91, R95, R96) -/

/-- A record joins behind the newest with the next sequence number, HELD, in one commit (R90, R91). -/
def HeldMemory.append (h : HeldMemory) (c : RecordContent) : HeldMemory :=
  { h with records := h.records ++ [{ seq := h.nextSeq, content := c, inFlight := false }], nextSeq := h.nextSeq + 1 }

/-- A note takes one cell of unreserved room, or is dropped and holds JOURNAL_FULL raised (R96, R97). -/
def State.writeNote (s : State) (c : RecordContent) : State :=
  if s.noteFits then ((s.onHeld fun h => h.append c).recalcPressure).testJournal
  else (s.onFaults fun r => { r with journalHold := true }).raise .journalFull

/-- The record a lane's basket makes (R92). -/
def State.basketRecord (s : State) (l : Lane) (type : RecordType) : RecordContent :=
  let b := (s.lane l).basket
  .basket {
    type := type
    station := s.self
    lane := l
    basket := s.held.baskets[l.val]
    stamp := s.stamp
    standin := b.standin
    total := b.total
    tax := if type = .sale then b.tax else none
    lines := b.lines
    tenders := b.tenders
    change := b.change }

/-- A basket returns to CLOSED (R72, R95): its record, where it has one, the cleared marker and the returned reservation in one
commit; then the used cells go to the Roster and the journal-full condition is tested (R93, R97). -/
def State.endBasket (s : State) (l : Lane) (type : Option RecordType) : State :=
  let held :=
    match type with
    | some t => s.held.append (s.basketRecord l t)
    | none => s.held
  let s1 := { s with held := { held with markers := held.markers.set l.val none } }
  ((s1.onBasket l fun _ => Basket.empty).recalcPressure).testJournal

/-! ## The owner's batch (R99 to R103) -/

/-- Every IN_FLIGHT record reverts to HELD (R102). -/
def HeldMemory.revert (h : HeldMemory) : HeldMemory :=
  { h with records := h.records.map fun r => { r with inFlight := false } }

/-- A frame from slot 9. -/
def Frame.isJseg (f : Frame) : Bool :=
  match f.payload with
  | .jseg _ => true
  | _ => false

/-- The batch ends: its JSEG is withdrawn, its records revert, cursor and sent-through number are cleared (R99, R102). -/
def State.endOwnerBatch (s : State) : State :=
  ((s.withdraw .jseg Frame.isJseg).onHeld HeldMemory.revert).setJournal none

/-- The first `n` records become IN_FLIGHT (R99). -/
def markInFlight : Nat → List JournalRecord → List JournalRecord
  | 0, rs => rs
  | _, [] => []
  | n + 1, r :: rs => { r with inFlight := true } :: markInFlight n rs

/-- Segments of a record of `n` cells: the smallest whole number not below n / 7 (R100). -/
def segmentsOf (cells : Nat) : Nat := (cells + 6) / 7

/-- The records of the batch, oldest first. -/
def HeldMemory.batchRecords (h : HeldMemory) : List JournalRecord := h.records.filter (·.inFlight)

/-- A record's segment as a JSEG (R100). -/
def segmentOf (r : JournalRecord) (index : Nat) (newest : Bool) : Jseg :=
  { empty := false
    lastSeg := index + 1 == segmentsOf r.content.cells
    lastRecord := newest
    seq := r.seq
    index := index
    data := ((r.content.bytes r.seq).drop (Config.segmentBytes * index)).take Config.segmentBytes }

/-- The number of the batch's newest record. -/
def HeldMemory.newestInFlight (h : HeldMemory) : Option Nat := (h.batchRecords.getLast?).map (·.seq)

/-- The JSEG at the send cursor (R100). -/
def State.jsegAt (s : State) (seq index : Nat) : Option Jseg :=
  (s.held.batchRecords.find? fun r => r.seq == seq).map fun r =>
    segmentOf r index (s.held.newestInFlight == some r.seq)

/-- The EMPTY JSEG (R99). -/
def emptyJseg : Jseg := { empty := true, lastSeg := false, lastRecord := false, seq := 0, index := 0, data := [] }

/-- The batch stops sending: records above the sent-through number revert to HELD (R100). -/
def State.stopSending (s : State) : State :=
  match s.journal with
  | none => s
  | some b =>
    let keep (r : JournalRecord) : JournalRecord :=
      match b.sentThrough with
      | none => { r with inFlight := false }
      | some t => if r.seq ≤ t then r else { r with inFlight := false }
    (s.onHeld fun h => { h with records := h.records.map keep }).setJournal (some { b with cursor := none })

/-- Produce a JSEG for slot 9. While SILENCED it ends at once, which stops the batch; an EMPTY one changes nothing (R100). -/
def State.produceJseg (s : State) (n : Station) (g : Jseg) : State :=
  if s.silenced then (if g.empty then s else s.stopSending)
  else s.place (.frame { dest := some n, payload := .jseg g, applied := false })

/-- The count a JPULL asks for: 0 and above 16 are taken as 16 (R99). -/
def pullCount (n : Nat) : Nat := if 1 ≤ n && n ≤ Config.batchRecords then n else Config.batchRecords

/-- Choose a new batch for a puller (R99): any batch ends, the oldest records become IN_FLIGHT, the cursor stands at the first
segment of the oldest. -/
def State.chooseBatch (s : State) (p : Puller) (count : Nat) : State :=
  let s1 := s.endOwnerBatch
  let s2 := s1.onHeld fun h => { h with records := markInFlight (pullCount count) h.records }
  s2.setJournal (some { puller := p, cursor := s2.held.records.head?.map fun r => (r.seq, 0), sentThrough := none })

/-- A JPULL from a peer (R99): a new batch and its first JSEG, or one JSEG marked EMPTY. -/
def State.jpullFrom (s : State) (n : Station) (count : Nat) : State :=
  let s1 := s.chooseBatch (.peer n) count
  match s1.held.records with
  | [] => s1.produceJseg n emptyJseg
  | r :: _ =>
    match s1.jsegAt r.seq 0 with
    | some g => s1.produceJseg n g
    | none => s1

/-- The cursor after a segment: the next segment of the same record, or the first of the next batch record (R100). -/
def State.cursorAfter (s : State) (g : Jseg) : Option (Nat × Nat) :=
  if g.lastSeg then
    ((s.held.batchRecords.find? fun r => g.seq < r.seq).map fun r => (r.seq, 0))
  else some (g.seq, g.index + 1)

/-- A JSEG of the current batch was CARRIED (R100). -/
def State.jsegCarried (s : State) (n : Station) (g : Jseg) : State :=
  match s.journal with
  | none => s
  | some b =>
    if g.empty || b.puller ≠ .peer n || b.cursor ≠ some (g.seq, g.index) then s
    else
      let next := s.cursorAfter g
      let s1 := s.setJournal (some { b with
        cursor := next, sentThrough := if g.lastSeg then some g.seq else b.sentThrough })
      match next with
      | none => s1
      | some (q, i) =>
        match s1.jsegAt q i with
        | some h => s1.produceJseg n h
        | none => s1

/-- Whether a release through `seq` removes a record, given the sent-through number (R101). -/
def releasable (seq : Nat) (sent : Option Nat) (r : JournalRecord) : Bool :=
  r.inFlight && r.seq ≤ seq && match sent with | some t => r.seq ≤ t | none => false

/-- A JREL (R101): from the current puller it removes the IN_FLIGHT sent records through `seq` from the oldest end and ends the
batch; from any other station, or with no batch, it changes nothing. -/
def State.jrelFrom (s : State) (p : Puller) (seq : Nat) : State :=
  match s.journal with
  | none => s
  | some b =>
    if b.puller ≠ p then s
    else
      let kept := s.held.records.dropWhile (releasable seq b.sentThrough)
      ((((s.onHeld fun h => { h with records := kept }).endOwnerBatch).recalcPressure).testJournal)

/-- The local pull (R103): the batch is chosen for self, every JSEG counts as CARRIED as it is handed over, so the sent-through
number is the batch's newest record. -/
def State.jpullLocal (s : State) : State :=
  let s1 := s.chooseBatch .self Config.batchRecords
  match s1.journal with
  | none => s1
  | some b => s1.setJournal (some { b with cursor := none, sentThrough := s1.held.newestInFlight })

/-- TAKE_JPULL (R99): the head of the Journal inbox, where it is a JPULL. -/
def State.takeJpull (s : State) : State :=
  match s.line.journalInbox with
  | { sender := n, payload := .jpull count } :: rest =>
    (s.onLine fun l => { l with journalInbox := rest }).jpullFrom n count
  | _ => s

end Sys2Proof.Machine
end

