-- ==== Sys2Proof/Machine/Operands.lean ====
section
/-! DEFINITION. Lane requests as operands: the tests every request passes before its own (R69 to R71, Table 4-1) and the answers
(R73). -/

namespace Sys2Proof.Machine

/-- The basket number an answer carries: 0 while CLOSED (section 11.4). -/
def State.basketNumber (s : State) (l : Lane) : Nat :=
  if (s.lane l).basket.state = .closed then 0 else s.held.baskets[l.val]

/-- An answer is given: it joins the answers not yet sent, with the basket state as it stands (R69, R73). -/
def State.answer (s : State) (l : Lane) (number : Nat) (code : ResultCode) (contents : Contents) : State :=
  let a : Answer :=
    { number := number, code := code, state := (s.lane l).basket.state, basket := s.basketNumber l, contents := contents }
  s.onLane l fun c => { c with answers := c.answers ++ [a] }

/-- How Table 4-1 takes a request: its mode (none is "either", ASK alone), its kind code if it is protected, and the basket
states it is taken in. -/
structure RequestForm where
  mode      : Option LaneMode
  guarded   : Option Nat
  states    : List BasketState

/-- Every basket state, for requests taken in any. -/
def anyState : List BasketState := [.closed, .opened, .totalled, .tendering, .authWait, .paid]

/-- The station takes requests on the lane: it is present (R67) and in no break that reset it (R88). -/
def State.laneTakes (s : State) (l : Lane) : Bool := s.lanePresent l && !(s.lane l).broken

/-- The confirmation byte of a protected request holds 255 less its kind (R71). -/
def confirms (r : Request) (kind : Nat) : Bool := r.confirm + kind == 255

/-- A TILL lane's request other than ASK waits for READY and a good profile (R70, order 3). -/
def State.notReady (s : State) : Bool := !(decide (s.start.phase = .ready)) || s.start.profileBad

/-- Tests 2 to 5 of R70 in order: the refusing code, or none. -/
def State.screen (s : State) (r : Request) (f : RequestForm) : Option ResultCode :=
  if f.mode.isSome && f.mode ≠ some (s.laneMode r.lane) then some .mode
  else if f.mode.isSome && s.laneMode r.lane = .till && s.notReady then some .notReady
  else if f.guarded.any (fun k => !confirms r k) then some .protection
  else if (s.lane r.lane).basket.state ∉ f.states then some .state
  else none

/-- A request is taken (R69, R70): nothing on a lane that takes none; BUSY while another is in flight; refused by the first
test that fails; else its own work is done. -/
def State.request (s : State) (r : Request) (f : RequestForm) (work : State → State) : State :=
  if !s.laneTakes r.lane then s
  else if (s.lane r.lane).inFlight.isSome then s.answer r.lane r.number .busy .none
  else
    match s.screen r f with
    | some code => s.answer r.lane r.number code .none
    | none => work s

end Sys2Proof.Machine
end

