-- ==== Sys2Proof/Machine/LabelRequests.lean ====
section
/-! DEFINITION. The binding requests of SERVICE lanes: BIND, UNBIND, RELEASE, LABEL (section 6.6). -/

namespace Sys2Proof.Machine

/-- How Table 4-1 takes a service request. -/
def serviceForm (guarded : Option Nat) : RequestForm := { mode := some .service, guarded := guarded, states := anyState }

/-- HOLD frames and the confirmation check after a label has left an item (R118 to R120): a leave when none is left bound
here, else the check. -/
def State.labelLeft (s : State) (item : Nat) : State :=
  if (s.held.bound item).isEmpty then s.ownHold item false else s.confirmCheck item

/-- Remove a label's record, its place in the queue, and void its exchange (R114, R119). -/
def State.removeLabel (s : State) (l : Label) : State :=
  ((s.onHeld fun h => { h with labels := h.labels.filter fun x => !(x.index == l.index) }).unqueueLabel l.index).voidExchange
    l.index

/-- A BIND of a radio id with no record (R116). -/
def State.bindNew (r : Request) (radioId item : Nat) (s : State) : State :=
  let index := freeIndex 0 s.held.labels
  let first := (s.held.bound item).isEmpty
  let l : Label :=
    { index := index, radioId := radioId, item := item, shownVersion := 0, shownHeadline := 0, shownBlocked := false
      state := .queued, attempts := 0, notBefore := none, battery := 3, contact := none }
  let s1 := s.queueLabel l
  let s2 := if first then s1.ownHold item true else s1
  s2.startExchange.answer r.lane r.number .ok (.index index)

/-- The rebound label by its state (R117). -/
def State.rebound (s : State) (l : Label) : State :=
  match l.state with
  | .queued => s.setLabel l
  | .awaiting => (s.setLabel l).voidExchange l.index
  | _ => s.queueLabel l

/-- A BIND of a radio id that has a record (R117). -/
def State.rebind (r : Request) (l : Label) (item : Nat) (s : State) : State :=
  let first := (s.held.bound item).isEmpty
  let s1 := s.rebound
    { l with item := item, shownVersion := 0, shownHeadline := 0, shownBlocked := false, attempts := 0, notBefore := none }
  let s2 :=
    if l.item = item then s1
    else
      let a := if (s1.held.bound l.item).isEmpty then s1.ownHold l.item false else s1
      (if first then a.ownHold item true else a).confirmCheck l.item
  s2.startExchange.answer r.lane r.number .ok (.index l.index)

/-- The tests of R116 in order: the refusing code, or none. -/
def State.bindRefusal (s : State) (radioId item : Nat) : Option ResultCode :=
  if !s.start.straps.labelRadio then some .mode
  else if radioId = 0 then some .noLabel
  else
    match s.items.find item with
    | none => some .unknownItem
    | some x =>
      if x.blocked then some .blocked
      else if (s.held.labelOf radioId).isNone && Config.maxLabels ≤ s.held.labels.length then some .tableFull
      else none

def State.bindWork (r : Request) (radioId item : Nat) (s : State) : State :=
  match s.bindRefusal radioId item with
  | some code => s.answer r.lane r.number code .none
  | none =>
    match s.held.labelOf radioId with
    | some l => s.rebind r l item
    | none => s.bindNew r radioId item

/-- BIND (R116, R117). -/
def State.doBind (r : Request) (radioId item : Nat) (s : State) : State :=
  s.request r (serviceForm none) (State.bindWork r radioId item)

def State.unbindWork (r : Request) (radioId : Nat) (s : State) : State :=
  match s.held.labelOf radioId with
  | none => s.answer r.lane r.number .noLabel .none
  | some l => ((s.removeLabel l).labelLeft l.item).answer r.lane r.number .ok .none

/-- UNBIND (R119). -/
def State.doUnbind (r : Request) (radioId : Nat) (s : State) : State :=
  s.request r (serviceForm none) (State.unbindWork r radioId)

def State.releaseWork (r : Request) (item : Nat) (s : State) : State :=
  let gone := (s.held.bound item).filter fun l => l.state == .faulted
  let s1 := gone.foldl State.removeLabel s
  (if gone.isEmpty then s1 else s1.labelLeft item).answer r.lane r.number .ok (.count gone.length)

/-- RELEASE (R120), protected with kind code 22. -/
def State.doRelease (r : Request) (item : Nat) (s : State) : State :=
  s.request r (serviceForm (some 22)) (State.releaseWork r item)

/-- The contents of a LABEL answer (R121, Table 11-8): the wait left is 0 outside RETRY_WAIT. -/
def State.labelContents (s : State) (l : Label) : Contents :=
  let t := s.target l.item
  .label l.index l.radioId l.item l.shownVersion l.shownHeadline l.shownBlocked t.blocked l.state l.attempts
    (match l.notBefore with | some n => n - s.now | none => 0) l.battery.val
    (l.contact.getD { valid := false, day := 0, second := 0 }) t.version

def State.labelWork (r : Request) (radioId : Nat) (s : State) : State :=
  match s.held.labelOf radioId with
  | none => s.answer r.lane r.number .noLabel .none
  | some l => s.answer r.lane r.number .ok (s.labelContents l)

/-- LABEL (R121): it changes nothing but its answer. -/
def State.doLabel (r : Request) (radioId : Nat) (s : State) : State :=
  s.request r (serviceForm none) (State.labelWork r radioId)

end Sys2Proof.Machine
end

