-- ==== Sys2Proof/Machine/LabelCommands.lean ====
section
/-! DEFINITION. The commands of the Label Radio Controller (chapter 6). -/

namespace Sys2Proof.Machine

/-- LABEL_ACK (R111). -/
def execLabelAck (radioId : Nat) (battery : Fin 4) (s : State) : Result := run (State.doLabelAck radioId battery) s

/-- UPDATE_TIMEOUT (R112). -/
def execUpdateTimeout (s : State) : Result := run State.doUpdateTimeout s

/-- NOT_BEFORE_EXPIRY (R113). -/
def execNotBeforeExpiry (index : Nat) (s : State) : Result := run (State.doNotBefore index) s

/-- BIND (R116). -/
def execBind (r : Request) (radioId item : Nat) (s : State) : Result := run (State.doBind r radioId item) s

/-- UNBIND (R119). -/
def execUnbind (r : Request) (radioId : Nat) (s : State) : Result := run (State.doUnbind r radioId) s

/-- RELEASE (R120). -/
def execRelease (r : Request) (item : Nat) (s : State) : Result := run (State.doRelease r item) s

/-- LABEL (R121). -/
def execLabel (r : Request) (radioId : Nat) (s : State) : Result := run (State.doLabel r radioId) s

end Sys2Proof.Machine
end

