-- ==== Sys2Proof/Machine/Pricing.lean ====
section
/-! DEFINITION. The Pricing Unit (chapter 3): pure workings on one basket and one item record. -/

namespace Sys2Proof.Machine

/-- The lock a first scan makes from a record (R54). -/
def lockOf (r : ItemRecord) : Lock :=
  { item := r.code, kind := r.kind, taxClass := r.taxClass, state := r.charge, headline := headline r.charge }

/-- The basket's lock for an item (R54). -/
def Basket.lock (b : Basket) (item : Nat) : Option Lock := b.locks.find? fun k => k.item == item

/-- The lock a scan or weighing is priced from: the basket's, else the one the record would make (R56). -/
def Basket.lockFor (b : Basket) (r : ItemRecord) : Lock := (b.lock r.code).getD (lockOf r)

/-- The item's non-voided item lines and promotion lines (R58). -/
def Basket.itemLines (b : Basket) (item : Nat) : List Line :=
  b.lines.filter fun l => l.item == item && !l.voided && !l.promo

def Basket.promoLines (b : Basket) (item : Nat) : List Line :=
  b.lines.filter fun l => l.item == item && !l.voided && l.promo

/-- k of R58: the item's units so far. -/
def Basket.units (b : Basket) (item : Nat) : Nat := ((b.itemLines item).map (·.quantity)).foldl (· + ·) 0

/-- The sum of signed amounts. -/
def sumAmounts (ls : List Line) : Int := (ls.map (·.amount)).foldl (· + ·) 0

/-- The deduction d = n × h − G of a multibuy at a headline (R58). -/
def deduction (m : Multibuy) (h : Nat) : Int := (m.count : Int) * h - m.group

/-- The line amount of R57: h × count, or h × grams / 1,000 rounded half up. -/
def lineAmount (k : ItemKind) (h quantity : Nat) : Nat :=
  match k with
  | .unit => h * quantity
  | .weighed => roundHalfUp (h * quantity) 1000

/-- The item line of a scan or weighing (R60). -/
def itemLine (k : Lock) (quantity number : Nat) : Line :=
  { number := number, item := k.item, kind := k.kind, quantity := quantity, headline := k.headline
    amount := lineAmount k.kind k.headline quantity, taxClass := k.taxClass, voided := false, promo := false }

/-- A promotion line (R58). -/
def promoLine (k : Lock) (m : Multibuy) (number : Nat) : Line :=
  { number := number, item := k.item, kind := .unit, quantity := m.count, headline := k.headline
    amount := -(deduction m k.headline), taxClass := k.taxClass, voided := false, promo := true }

/-- The promotion lines a scan of `count` units adds behind line `number` (R58): one for each group completed, where the
deduction is above 0. -/
def Basket.newPromos (b : Basket) (k : Lock) (count number : Nat) : List Line :=
  match k.kind, k.state.multibuy with
  | .unit, some m =>
    if 0 < deduction m k.headline then
      (List.range ((b.units k.item + count) / m.count - (b.promoLines k.item).length)).map fun i =>
        promoLine k m (number + 1 + i)
    else []
  | _, _ => []

/-- The lines a scan or weighing would add (R60). -/
def Basket.newLines (b : Basket) (k : Lock) (quantity : Nat) : List Line :=
  let n := b.lines.length + 1
  itemLine k quantity n :: b.newPromos k quantity n

/-- The quantity limits of order 4 (R56). -/
def quantityFits (k : ItemKind) (quantity : Nat) : Bool :=
  match k with
  | .unit => 1 ≤ quantity && quantity ≤ 99
  | .weighed => 1 ≤ quantity && quantity ≤ 30000

/-- The seven tests of R56 in order for a request of kind `want`: the first code that holds, or the lock and the lines to add. -/
def Basket.price (b : Basket) (t : ItemTable) (want : ItemKind) (item quantity : Nat) :
    Except ResultCode (Lock × List Line) :=
  match t.find item with
  | none => .error .unknownItem
  | some r =>
    if r.blocked then .error .blocked
    else
      let k := b.lockFor r
      if k.kind ≠ want then .error .kind
      else if !quantityFits want quantity then .error .limit
      else if Config.maxGroup < lineAmount k.kind k.headline quantity then .error .limit
      else if Config.maxLines < b.lines.length + (b.newLines k quantity).length then .error .limit
      else if (Config.maxTotal : Int) < b.total + sumAmounts (b.newLines k quantity) then .error .limit
      else .ok (k, b.newLines k quantity)

/-- An accepted scan or weighing enters the basket whole (R60). -/
def Basket.addPriced (b : Basket) (k : Lock) (added : List Line) : Basket :=
  { b with
    locks := if (b.lock k.item).isSome then b.locks else b.locks ++ [k]
    lines := b.lines ++ added
    total := b.total + sumAmounts added }

/-- The promotion lines the cascade voids, newest first, when an item line leaves (R62). -/
def Basket.cascade (b : Basket) (l : Line) : List Line :=
  match l.kind, (b.lock l.item).bind (·.state.multibuy) with
  | .unit, some m =>
    let promos := b.promoLines l.item
    promos.reverse.take (promos.length - (b.units l.item - l.quantity) / m.count)
  | _, _ => []

/-- A VOID worked out whole (R61, R62): the code that refuses it, or the lines to void, the item line first, and the total. -/
def Basket.voiding (b : Basket) (number : Nat) : Except ResultCode (List Line × Int) :=
  match b.lines.find? fun l => l.number == number with
  | none => .error .noLine
  | some l =>
    if l.voided || l.promo then .error .noLine
    else
      let gone := l :: b.cascade l
      let total := b.total - sumAmounts gone
      if (Config.maxTotal : Int) < total then .error .limit else .ok (gone, total)

/-- Mark lines VOIDED and take the total (R62). -/
def Basket.applyVoid (b : Basket) (gone : List Line) (total : Int) : Basket :=
  { b with
    lines := b.lines.map fun l => if gone.any (fun g => g.number == l.number) then { l with voided := true } else l
    total := total }

/-- T_c of R63: the sum of the non-voided lines of a tax class. -/
def Basket.classSum (b : Basket) (c : Fin 4) : Int := sumAmounts (b.lines.filter fun l => !l.voided && l.taxClass == c)

/-- The tax content of a class at a rate (R63). -/
def taxContent (sum rate : Nat) : Nat := roundHalfUp (sum * rate) (10000 + rate)

/-- The four tax contents of a TOTAL (R63). -/
def Basket.taxContents (b : Basket) (rates : Vector Nat 4) : TaxContents :=
  { c0 := taxContent (b.classSum 0).toNat rates[0]
    c1 := taxContent (b.classSum 1).toNat rates[1]
    c2 := taxContent (b.classSum 2).toNat rates[2]
    c3 := taxContent (b.classSum 3).toNat rates[3] }

def Tender.amount : Tender → Nat
  | .cash a => a
  | .card a _ => a

/-- The tendered sum (R65). -/
def Basket.tendered (b : Basket) : Int := (((b.tenders.map Tender.amount).foldl (· + ·) 0 : Nat) : Int)

/-- The amount remaining: the total less the tendered sum (R65). -/
def Basket.remaining (b : Basket) : Int := b.total - b.tendered

/-- Add a tender (R65, R78, R84): PAID with the change due when the tendered sum reaches the total, else TENDERING. -/
def Basket.addTender (b : Basket) (t : Tender) : Basket :=
  let b1 := { b with tenders := b.tenders ++ [t] }
  if b1.remaining ≤ 0 then { b1 with state := .paid, change := some (-b1.remaining) }
  else { b1 with state := .tendering }

/-- What a tender's answer carries: the change due when PAID, else the amount remaining (R65, R73). -/
def Basket.tenderContents (b : Basket) : Contents :=
  match b.state, b.change with
  | .paid, some c => .change c
  | _, _ => .remaining b.remaining

/-- A declined or cancelled card leaves TENDERING if the basket holds tenders, else TOTALLED (R72). -/
def Basket.backFromAuth (b : Basket) : Basket :=
  { b with state := if b.tenders.isEmpty then .totalled else .tendering }

end Sys2Proof.Machine
end

