-- ==== Sys2Proof/Machine/Lanes.lean ====
section
/-! DEFINITION. The Lane Controller (chapter 4): the till requests, the auth entry and the late list. CARD, CANCEL in AUTH_WAIT
and the commands that reach the Uplink Router are in Cards.lean. -/

namespace Sys2Proof.Machine

/-! ## Requests on the basket -/

/-- OPEN (R74, R94): a reservation and the next lane basket number, or JOURNAL_FULL. -/
def nextBasketNumber (n : Nat) : Nat := if Config.lastSequence ≤ n then 1 else n + 1

def State.openWork (r : Request) (s : State) : State :=
  if s.hasRoom then
    let n := nextBasketNumber s.held.baskets[r.lane.val]
    let s1 := s.onHeld fun h =>
      { h with baskets := h.baskets.set r.lane.val n, markers := h.markers.set r.lane.val (some n) }
    ((s1.onBasket r.lane fun _ => { Basket.empty with state := .opened }).testJournal).answer r.lane r.number .ok .none
  else s.answer r.lane r.number .journalFull .none

def State.doOpen (r : Request) (s : State) : State :=
  s.request r { mode := some .till, guarded := none, states := [.closed] } (State.openWork r)

/-- SCAN and WEIGH (R56, R60, R75). -/
def State.priceWork (r : Request) (want : ItemKind) (item quantity : Nat) (s : State) : State :=
  match (s.lane r.lane).basket.price s.items want item quantity with
  | .error code => s.answer r.lane r.number code .none
  | .ok (k, added) =>
    let s1 := s.onBasket r.lane fun b => b.addPriced k added
    s1.answer r.lane r.number .ok (.lines (s1.lane r.lane).basket.total added)

def State.doPrice (r : Request) (want : ItemKind) (item quantity : Nat) (s : State) : State :=
  s.request r { mode := some .till, guarded := none, states := [.opened] } (State.priceWork r want item quantity)

/-- VOID (R61, R62, R75), protected with kind code 4. -/
def State.voidWork (r : Request) (line : Nat) (s : State) : State :=
  match (s.lane r.lane).basket.voiding line with
  | .error code => s.answer r.lane r.number code .none
  | .ok (gone, total) =>
    (s.onBasket r.lane fun b => b.applyVoid gone total).answer r.lane r.number .ok
      (.voids total (gone.map (·.number)))

def State.doVoid (r : Request) (line : Nat) (s : State) : State :=
  s.request r { mode := some .till, guarded := some 4, states := [.opened] } (State.voidWork r line)

/-- ASK (R76): it reads the record and changes nothing. -/
def State.askWork (r : Request) (item : Nat) (s : State) : State :=
  match s.items.find item with
  | none => s.answer r.lane r.number .unknownItem .none
  | some x =>
    s.answer r.lane r.number .ok
      (.item (x.kind == .weighed) x.pending.isSome x.blocked (headline x.charge) (headline x.book))

def State.doAsk (r : Request) (item : Nat) (s : State) : State :=
  s.request r { mode := none, guarded := none, states := anyState } (State.askWork r item)

/-- TOTAL (R63, R77). -/
def State.totalWork (r : Request) (s : State) : State :=
  let tax := (s.lane r.lane).basket.taxContents s.start.profile.taxRates
  let s1 := s.onBasket r.lane fun b => { b with state := .totalled, tax := some tax }
  s1.answer r.lane r.number .ok (.totals (s1.lane r.lane).basket.total tax)

def State.doTotal (r : Request) (s : State) : State :=
  s.request r { mode := some .till, guarded := none, states := [.opened] } (State.totalWork r)

/-- RESUME (R64, R77). -/
def State.resumeWork (r : Request) (s : State) : State :=
  let s1 := s.onBasket r.lane fun b => { b with state := .opened, tax := none }
  s1.answer r.lane r.number .ok (.total (s1.lane r.lane).basket.total)

def State.doResume (r : Request) (s : State) : State :=
  s.request r { mode := some .till, guarded := none, states := [.totalled] } (State.resumeWork r)

/-- The LIMIT test R78 and R79 share: a fourth tender must complete the basket. -/
def Basket.fourthShort (b : Basket) (amount : Nat) : Bool := b.tenders.length == 3 && (amount : Int) < b.remaining

/-- CASH (R78, R65). Above 0 it is taken on a totalled basket of total 0 too (DESIGN CHOICE, notes/assumptions/57.md). -/
def Basket.cashRefused (b : Basket) (amount : Nat) : Bool :=
  b.fourthShort amount ||
    (!(1 ≤ amount && amount ≤ Config.maxTotal) && !(amount == 0 && decide (b.remaining = 0)))

def State.cashWork (r : Request) (amount : Nat) (s : State) : State :=
  if (s.lane r.lane).basket.cashRefused amount then s.answer r.lane r.number .limit .none
  else
    let s1 := s.onBasket r.lane fun b => b.addTender (.cash amount)
    s1.answer r.lane r.number .ok (s1.lane r.lane).basket.tenderContents

def State.doCash (r : Request) (amount : Nat) (s : State) : State :=
  s.request r { mode := some .till, guarded := none, states := [.totalled, .tendering] } (State.cashWork r amount)

/-- CLOSE (R81): the SALE record, and its sequence number as the answer. -/
def State.closeWork (r : Request) (s : State) : State :=
  (s.endBasket r.lane (some .sale)).answer r.lane r.number .ok (.sequence s.held.nextSeq)

/-! ## Frames and answers that are no request's work -/

/-- A bad request frame is answered CHECK with request number 0 (R68). -/
def State.doFrameBad (l : Lane) (s : State) : State := if s.laneTakes l then s.answer l 0 .check .none else s

/-- A frame of unknown kind is answered UNKNOWN_REQUEST, or BUSY while a request is in flight (R69, R70). -/
def State.doUnknown (l : Lane) (number : Nat) (s : State) : State :=
  if s.laneTakes l then
    s.answer l number (if (s.lane l).inFlight.isSome then .busy else .unknownRequest) .none
  else s

/-- The lane port finishes sending the oldest answer (R69). -/
def State.doAnswerSent (l : Lane) (s : State) : State := s.onLane l fun c => { c with answers := c.answers.tail }

/-- A break that reset the lane ends (R88). -/
def State.doBreakEnd (l : Lane) (s : State) : State := s.onLane l fun c => { c with broken := false }

/-! ## Auth entries (R82 to R87) -/

/-- The CARD in flight is answered and is no longer in flight (R69, R85). -/
def State.answerCard (s : State) (l : Lane) (code : ResultCode) (contents : Contents) : State :=
  match (s.lane l).inFlight with
  | none => s
  | some n => (s.onLane l fun c => { c with inFlight := none }).answer l n code contents

/-- An entry joins the late list; the ninth pushes out the oldest (R86). -/
def joinLate (xs : List LateEntry) (e : LateEntry) : List LateEntry :=
  let ys := xs ++ [e]
  ys.drop (ys.length - Config.maxLate)

/-- An AUTHQ of this lane. -/
def Frame.isAuthqOf (l : Lane) (f : Frame) : Bool :=
  match f.payload with
  | .authq _ m _ _ => m == l
  | _ => false

/-- The auth entry ends (R85): its AUTHQ, kept or in a slot, is discarded or withdrawn, and it joins the late list where a
decision is given. The basket and the CARD answer are the ending rule's. -/
def State.endAuth (s : State) (l : Lane) (late : Option Decision) : State :=
  match (s.lane l).auth with
  | none => s
  | some e =>
    let s1 := s.withdraw .auth (Frame.isAuthqOf l)
    s1.onLane l fun c =>
      { c with
        auth := none
        late :=
          match late with
          | some d => joinLate c.late { basket := e.basket, amount := e.amount, decision := d, joined := s.now }
          | none => c.late }

/-- The stand-in decision on an amount (R84). -/
def State.standInDecision (s : State) (amount : Nat) : Decision :=
  if amount ≤ s.start.profile.floorLimit then .approvedStandin else .declinedNoAnswer

/-- The stand-in decision's effect on the basket, and the CARD's answer (R84). -/
def State.standInEffect (s : State) (l : Lane) (amount : Nat) : State :=
  if s.standInDecision amount = .approvedStandin then
    let s1 := s.onBasket l fun b => { b.addTender (.card amount true) with standin := true }
    s1.answerCard l .approvedStandin (s1.lane l).basket.tenderContents
  else
    let s1 := s.onBasket l Basket.backFromAuth
    s1.answerCard l .declinedNoAnswer (.remaining (s1.lane l).basket.remaining)

/-- The stand-in decision on a lane's open entry (R84); `late` says whether the entry joins the late list. -/
def State.standIn (s : State) (l : Lane) (late : Bool) : State :=
  match (s.lane l).auth with
  | none => s
  | some e =>
    (s.endAuth l (if late then some (s.standInDecision e.amount) else none)).standInEffect l e.amount

/-- Decision classes of R87: approvals, declines, and NONE by itself. -/
inductive DecisionClass where
  | approval | decline | none
  deriving DecidableEq, Repr

def Decision.class : Decision → DecisionClass
  | .approved => .approval
  | .approvedStandin => .approval
  | .declined => .decline
  | .declinedNoAnswer => .decline
  | .declinedNoRoute => .decline
  | .none => .none

/-- Remove the oldest late entry of a basket number (R87). -/
def takeLate (basket : Nat) : List LateEntry → Option (LateEntry × List LateEntry)
  | [] => none
  | e :: es =>
    if e.basket = basket then some (e, es)
    else (takeLate basket es).map fun r => (r.1, e :: r.2)

/-- An answer that matches no auth entry (R87): the oldest late entry of the basket is removed, and a LATE_AUTH note is written
where the classes differ; with no match it is dropped. -/
def State.lateAnswer (s : State) (l : Lane) (basket : Nat) (d : Decision) : State :=
  match takeLate basket (s.lane l).late with
  | none => s
  | some (e, rest) =>
    let s1 := s.onLane l fun c => { c with late := rest }
    if e.decision.class = d.class then s1
    else s1.writeNote (.lateAuth s.self l basket s.stamp e.amount e.decision d)

/-- A matching answer decides the tender (R83). -/
def State.decideCard (s : State) (l : Lane) (amount : Nat) (d : Decision) : State :=
  match d with
  | .approved =>
    let s1 := (s.endAuth l none).onBasket l fun b => b.addTender (.card amount false)
    s1.answerCard l .approved (s1.lane l).basket.tenderContents
  | .declinedNoRoute => s.standIn l false
  | _ =>
    let s1 := (s.endAuth l none).onBasket l Basket.backFromAuth
    s1.answerCard l .declined (.remaining (s1.lane l).basket.remaining)

/-- An answer to a card authorisation, from an AUTHA frame or internal (R83). -/
def State.takeAnswer (s : State) (l : Lane) (basket : Nat) (d : Decision) : State :=
  if !s.lanePresent l then s
  else
    match (s.lane l).auth with
    | some e => if e.basket = basket then s.decideCard l e.amount d else s.lateAnswer l basket d
    | none => s.lateAnswer l basket d

/-- The 15 s timer of an auth entry (R84). -/
def State.doAuthTimer (l : Lane) (s : State) : State :=
  match (s.lane l).auth with
  | some e => if e.start + Config.authWait ≤ s.now then s.standIn l true else s
  | none => s

/-- The 60 s life of the oldest late entry (R86). -/
def State.doLateExpiry (l : Lane) (s : State) : State :=
  match (s.lane l).late with
  | e :: es => if e.joined + Config.lateLife ≤ s.now then s.onLane l fun c => { c with late := es } else s
  | [] => s

/-! ## Lane reset (R88) -/

/-- Whether a lane reset writes the basket off: not CLOSED, with at least one line or one tender (R88). -/
def Basket.lost (b : Basket) : Bool := !b.lines.isEmpty || !b.tenders.isEmpty

/-- What a lane reset does to the lane itself (R88): the request in flight and the unsent answers are dropped, the auth entry
joins the late list with decision NONE, and the lane takes nothing until the break ends. -/
def State.breakLane (s : State) (l : Lane) : State :=
  (s.endAuth l (some .none)).onLane l fun c => { c with inFlight := none, answers := [], broken := true }

/-- The basket of a lane that is reset (R88): written off, or given back. -/
def State.writeOff (s : State) (l : Lane) : State :=
  s.endBasket l (if (s.lane l).basket.lost then some .lostByReset else none)

end Sys2Proof.Machine
end

