-- ==== Sys2Proof/Machine/Cards.lean ====
section
/-! DEFINITION. Card authorisation where lane and gateway meet: the router's AUTH entries (section 7.5), CARD and CANCEL
(R79, R80), and the outcome of an AUTHQ (R82). -/

namespace Sys2Proof.Machine

/-! ## Answers to origins (R137) -/

/-- An answer goes to its origin: straight to this station's own lane, or as an AUTHA in slots 0 and 1. While SILENCED a frame
placed ends at once, and the router takes no action on that (R135, R137). -/
def State.produceAutha (s : State) (origin : Station) (lane : Lane) (basket : Nat) (d : Decision) : State :=
  if origin = s.self then s.takeAnswer lane basket d
  else if s.silenced then s
  else s.place (.frame { dest := some origin, payload := .autha lane basket d, applied := false })

/-! ## AUTH entries (R133, R134, R136) -/

/-- Remove the AUTH entries a test picks, and their OFFICE_AUTHs still queued (R136). -/
def Router.dropAuth (r : Router) (p : AuthFlow → Bool) : Router :=
  let tags := (r.authFlows.filter p).map (·.tag)
  { r with
    authFlows := r.authFlows.filter fun f => !p f
    authQueue := r.authQueue.filter fun a => !tags.contains a.tag }

/-- The lowest tag of 1 to 64 that no entry carries, looked for from `tag` on. -/
def freeTag (flows : List AuthFlow) : Nat → Nat → Option Nat
  | 0, _ => none
  | fuel + 1, tag => if flows.any fun f => f.tag == tag then freeTag flows fuel (tag + 1) else some tag

/-- A request for authorisation, from the Auth inbox or from this station's own lane (R134). An entry that it replaces goes first,
and the new one may take its tag (DESIGN CHOICE, notes/assumptions/81.md). -/
def State.routerRequest (s : State) (origin : Station) (lane : Lane) (basket amount : Nat) : State :=
  if !s.uplinkUp then s.produceAutha origin lane basket .declinedNoRoute
  else
    let s1 := s.onRouter fun r => r.dropAuth fun f => f.origin == origin && f.lane == lane && f.basket == basket
    match freeTag s1.router.authFlows Config.maxTags 1 with
    | none => s1.produceAutha origin lane basket .declinedNoRoute
    | some tag =>
      (s1.onRouter fun r =>
        { r with
          authFlows := r.authFlows ++
            [{ tag := tag, origin := origin, lane := lane, basket := basket, amount := amount, made := s.now, sent := none }]
          authQueue := r.authQueue ++
            [{ tag := tag, origin := origin, lane := lane, basket := basket, amount := amount }] }).schedule

/-- TAKE_AUTHQ (R134): the head of the Auth inbox, where it is an AUTHQ. -/
def State.doTakeAuthq (s : State) : State :=
  match s.line.authInbox with
  | { payload := .authq origin lane basket amount, .. } :: rest =>
    (s.onLine fun l => { l with authInbox := rest }).routerRequest origin lane basket amount
  | _ => s

/-- TAKE_AUTHA (R83): the head of the Auth inbox, where it is an AUTHA. -/
def State.doTakeAutha (s : State) : State :=
  match s.line.authInbox with
  | { payload := .autha lane basket d, .. } :: rest =>
    (s.onLine fun l => { l with authInbox := rest }).takeAnswer lane basket d
  | _ => s

/-- The decision head office names, as an AUTHA carries it (R135). -/
def officeDecision : OfficeDecision → Decision
  | .approved => .approved
  | .declined => .declined

/-- An OFFICE_AUTH_ANS (R135): to the origin of the entry with its tag, or counted as unknown. -/
def State.officeAnswer (s : State) (tag : Nat) (d : OfficeDecision) : State :=
  match s.router.authFlows.find? fun f => f.tag == tag with
  | none => s.onRouter fun r => { r with unknownAnswers := bump r.unknownAnswers }
  | some f =>
    (s.onRouter fun r => r.dropAuth fun g => g.tag == tag).produceAutha f.origin f.lane f.basket (officeDecision d)

/-- AUTH_ENTRY_EXPIRY (R136): an entry 20 s old is removed silently. -/
def State.doAuthEntryExpiry (tag : Nat) (s : State) : State :=
  s.onRouter fun r => r.dropAuth fun f => f.tag == tag && f.made + Config.authEntryLife ≤ s.now

/-- The AUTH queue when the carrier link goes DOWN (R141): every queued request is answered DECLINED_NO_ROUTE, oldest first. -/
def State.declineQueued (s : State) : State :=
  s.router.authQueue.foldl
    (fun t a =>
      (t.onRouter fun r => r.dropAuth fun f => f.tag == a.tag).produceAutha a.origin a.lane a.basket .declinedNoRoute)
    s

/-! ## CARD (R79) and the AUTHQ's outcome (R82) -/

/-- The LIMIT tests of R79. -/
def Basket.cardRefused (b : Basket) (amount : Nat) : Bool :=
  b.fourthShort amount || amount == 0 || b.remaining < (amount : Int)

/-- Make the lane's auth entry (R79). -/
def State.openAuth (s : State) (l : Lane) (amount : Nat) (route : Route) (authq : AuthqState) : State :=
  let e : AuthEntry :=
    { basket := s.held.baskets[l.val], amount := amount, start := s.now, route := route, authq := authq }
  s.onLane l fun c => { c with auth := some e }

/-- CARD's own work (R79): the route is taken from the gateway and the standing as they stand. -/
def State.cardWork (r : Request) (amount : Nat) (s : State) : State :=
  if (s.lane r.lane).basket.cardRefused amount then s.answer r.lane r.number .limit .none
  else
    let basket := s.held.baskets[r.lane.val]
    let s1 := (s.onLane r.lane fun c => { c with inFlight := some r.number }).onBasket r.lane fun b =>
      { b with state := .authWait }
    match s.roster.gateway with
    | none => s1.standInEffect r.lane amount
    | some g =>
      if s.silenced then s1.standInEffect r.lane amount
      else if g = s.self then (s1.openAuth r.lane amount .internal .done).routerRequest s.self r.lane basket amount
      else
        (s1.openAuth r.lane amount .line .produced).place
          (.frame { dest := some g, payload := .authq s.self r.lane basket amount, applied := false })

/-- CARD (R79). -/
def State.doCard (r : Request) (amount : Nat) (s : State) : State :=
  s.request r { mode := some .till, guarded := none, states := [.totalled, .tendering] } (State.cardWork r amount)

/-- A slot reports on an AUTHQ (R82): CARRIED is done; UNHEARD and SILENCED take the stand-in decision, and the entry joins the
late list (R84). -/
def State.authqOutcome (s : State) (l : Lane) (basket : Nat) (carried : Bool) : State :=
  match (s.lane l).auth with
  | none => s
  | some e =>
    if e.route = .line && e.basket = basket then
      let s1 := s.onLane l fun c => { c with auth := some { e with authq := .done } }
      if carried then s1 else s1.standIn l true
    else s

/-! ## CANCEL (R80) -/

/-- CANCEL in AUTH_WAIT (R80): the CARD, an accepted request (R69), is answered CANCELLED with the amount remaining (R73), the entry joins the late list with decision NONE, and CANCEL is
answered OK after it. -/
def State.cancelAuth (r : Request) (s : State) : State :=
  let s1 := (s.endAuth r.lane (some .none)).onBasket r.lane Basket.backFromAuth
  (s1.answerCard r.lane .cancelled (.remaining (s1.lane r.lane).basket.remaining)).answer r.lane r.number .ok (.sequence 0)

/-- CANCEL of an OPEN or TOTALLED basket (R80): with lines it writes a CANCELLED record. -/
def State.cancelBasket (r : Request) (s : State) : State :=
  if (s.lane r.lane).basket.lines.isEmpty then
    (s.endBasket r.lane none).answer r.lane r.number .ok (.sequence 0)
  else (s.endBasket r.lane (some .cancelled)).answer r.lane r.number .ok (.sequence s.held.nextSeq)

/-- How Table 4-1 takes CANCEL outside AUTH_WAIT: protected with kind code 10 where the basket has lines. -/
def cancelForm (b : Basket) : RequestForm where
  mode := some .till
  guarded := if (b.state = .opened ∨ b.state = .totalled) ∧ b.lines ≠ [] then some 10 else none
  states := [.opened, .totalled]

end Sys2Proof.Machine
end

