-- ==== Sys2Proof/Machine/Night.lean ====
section
/-! DEFINITION. The Night Exchange (chapter 9): reports, batches, the drain walk, the stages, closing, and the day drain. Claiming,
windows and frames from the line are in Window.lean. -/

namespace Sys2Proof.Machine

/-! ## Frames and messages -/

/-- Produce a NIGHT frame for slot 2. -/
def State.produceNight (s : State) (m : NightMsg) : State :=
  if s.silenced then s else s.place (.frame { dest := none, payload := .night m, applied := false })

/-- Produce a JPULL or a JREL for slot 8. -/
def State.produceJournal (s : State) (n : Station) (p : Payload) : State :=
  if s.silenced then s else s.place (.frame { dest := some n, payload := p, applied := false })

/-- The items a message of the Night Exchange makes in the NIGHT queue (R127, Table 11-11). -/
def NightItem.parts : NightItem → List Part
  | .jput st seq data => partsOf 3 (beBytes 1 st.val ++ beBytes 4 seq ++ beBytes 1 (data.length / Config.cellBytes) ++ data)
  | .batchReq a => partsOf 5 (beBytes 4 a)

def Report.parts (r : Report) : List Part := partsOf 9 r.bytes

/-- The NIGHT_REPORT as its parts stand now (R169). -/
def State.makeReport (s : State) (result : NightResult) : Report where
  store := s.start.profile.store
  day := s.clock.day
  result := result
  drain := s.night.drain.toList
  refusedCount := s.night.refusedCount
  refused := s.night.refused
  overdueCount := s.items.overdueCount
  overdue := ((s.items.records.filter (·.overdue)).map (·.code)).take Config.maxListed
  unwatched := s.items.unwatched
  faulted := s.held.faultedCount
  lowBattery := s.held.lowBatteryCount
  unknown := s.router.unknownAnswers
  dropped := s.router.guestDropped
  notesLost := s.router.notesLost
  malformed := s.router.malformed
  guestRefused := s.guest.refused
  policed := s.guest.policed
  touched := s.guest.touched.toList

/-! ## Releases and closing -/

/-- The records of a batch that head office has taken (R166). -/
def Batch.released (b : Batch) : List Collected := b.collected.filter fun c => c.seq ≤ b.taken

/-- The number the JREL of a batch names: the taken-through number, or 0 if head office has taken none of it (R162, R166). -/
def Batch.releaseNumber (b : Batch) : Nat := if b.released.isEmpty then 0 else b.taken

/-- The drain record of a station counts records and cells that a release removed (R164). -/
def Night.countDrain (n : Night) (st : Station) (records cells : Nat) : Night :=
  let d := n.drain[st.val]
  { n with drain := n.drain.set st.val { d with records := d.records + records, cells := d.cells + cells } }

/-- A JREL handed to this station's own Journal (R103): what it removed is counted (R164). -/
def State.releaseHere (s : State) (n : Station) (seq : Nat) : State :=
  let t := s.jrelFrom .self seq
  t.onNight fun x =>
    x.countDrain n (s.held.records.length - t.held.records.length) (s.held.used - t.held.used)

/-- The release a JREL names to a peer (R164). Only collected records are counted, also where its number exceeds the newest of
them (DESIGN CHOICE, notes/assumptions/78.md). -/
def Batch.release (b : Batch) : Release :=
  { station := b.target, seq := b.releaseNumber, carried := false
    records := b.released.map fun c => (c.seq, c.data.length / Config.cellBytes) }

/-- A JREL produced for a peer (R166): what it removed there is not known before the next JPULL shows it (R101, R164). One
produced while SILENCED ends at once. -/
def State.releaseThere (s : State) (b : Batch) : State :=
  let s1 := s.produceJournal b.target (.jrel b.releaseNumber)
  if s.silenced || b.released.isEmpty then s1 else s1.onNight fun n => { n with releases := n.releases ++ [b.release] }

/-- The JREL of a batch, to its target or to the local Journal (R103, R162, R166). -/
def State.release (s : State) (b : Batch) : State :=
  if b.target = s.self then s.releaseHere b.target b.releaseNumber else s.releaseThere b

/-- The first release to a station under a number, and the others. -/
def takeRelease (n : Station) (seq : Nat) : List Release → Option (Release × List Release)
  | [] => none
  | r :: rs =>
    if r.station = n ∧ r.seq = seq then some (r, rs)
    else (takeRelease n seq rs).map fun x => (x.1, r :: x.2)

/-- A record that a release named is gone from its target, whose journal now begins with the record of this number, or is empty
(R101). -/
def recordGone (oldest : Option Nat) (r : Nat × Nat) : Bool :=
  match oldest with
  | some f => r.1 < f
  | none => true

/-- What the CARRIED releases to a station removed is known, and counted (R101, R164): the records below the oldest that its
journal now shows, or all of them. -/
def Night.releasesShown (n : Night) (st : Station) (oldest : Option Nat) : Night :=
  let mine (r : Release) : Bool := r.station == st && r.carried
  let gone := (((n.releases.filter mine).map (·.records)).flatten).filter (recordGone oldest)
  { n.countDrain st gone.length ((gone.map (·.2)).foldl (· + ·) 0) with
    releases := n.releases.filter fun r => !mine r }

/-- No batch of the exchange will show what a station's journal holds: its CARRIED releases count as having removed what they
name (DESIGN CHOICE, notes/assumptions/66.md). -/
def Night.releasesPresumed (n : Night) (st : Station) : Night := n.releasesShown st none

/-- Slot 8 reports on a JREL: CARRIED, what it removed is shown by the batch of its target that follows it, if one does; any other
end leaves the records at the target (R101, R164, R166). A JREL of an exchange that has passed to another station is known no
more (State.losesExchange), so a follower counts nothing here (R162, R171). -/
def State.jrelOutcome (s : State) (dest : Option Station) (seq : Nat) (carried : Bool) : State :=
  match dest.bind fun n => takeRelease n seq s.night.releases with
  | none => s
  | some (r, rest) =>
    if carried then
      let s1 := s.onNight fun n => { n with releases := { r with carried := true } :: rest }
      if s.night.batch.any fun b => b.target == r.station then s1 else s1.onNight fun n => n.releasesPresumed r.station
    else s.onNight fun n => { n with releases := rest }

/-- A batch in hand is given up (R162): a JREL names the taken-through number, or 0. JPUTs that wait for places are not lost
(R129). -/
def State.giveUpBatch (s : State) : State :=
  match s.night.batch with
  | none => s
  | some b => (s.release b).onNight fun n => { n.releasesPresumed b.target with batch := none }

/-- Everything that belongs to an exchange under way is cleared (R158). Messages that wait for places are kept (R129). -/
def Night.leaveExchange (n : Night) : Night :=
  { n with
    stage := none, walk := none, batch := none, attempts := 0, claimUntil := none, stallUntil := none, timeUntil := none
    askedAgain := false, newest := none, pricesEnding := none, donePending := false, timeTaken := false }

/-- An exchange that ends without its report queues none (R162, R173): the report of a REPORT stage stands last. -/
def Night.dropReport (n : Night) : Night :=
  if n.stage = some .report then { n with reports := n.reports.dropLast } else n

/-- The drain record is emptied; what JRELs on their way release is not counted in the new one (R160, R175). -/
def Night.emptyDrain (n : Night) : Night := { n with drain := Vector.replicate 8 .initial, releases := [] }

/-- The undrained-night count at a close (R174). -/
def undrainedAfter (count : Nat) : NightResult → Nat
  | .success => 0
  | .none => count
  | _ => min (count + 1) Config.maxUndrained

/-- The station enters CLOSED (R159, R170, R173, R174): the Journal ends any batch, and FAILED raises NIGHT_FAILED. -/
def State.nightClose (s : State) (r : NightResult) : State :=
  let s1 := (s.onNight fun n =>
    { n.leaveExchange with state := .closed, result := r, undrained := undrainedAfter n.undrained r }).endOwnerBatch
  if r = .failed then s1.raise .nightFailed else s1

/-! ## Joining the queues (R129, R142, R169) -/

def NightItem.isJput : NightItem → Bool
  | .jput .. => true
  | .batchReq _ => false

/-- What follows the joining of one message: the last BATCH_REQ starts the stall wait of PRICES (R167), the last JPUT the taken
wait (R166). A message of an exchange that has ended starts neither. -/
def Night.joined (n : Night) (now : Nat) (x : NightItem) (rest : List NightItem) : Night :=
  match x with
  | .batchReq _ =>
    if n.state = .exchanging && n.stage = some .prices && n.pricesEnding.isNone && rest.all NightItem.isJput then
      { n with stallUntil := some (now + Config.stallWait) }
    else n
  | .jput .. =>
    match n.batch with
    | none => n
    | some b =>
      if b.phase = .putting && rest.all (fun y => !y.isJput) then
        { n with batch := some { b with phase := .awaiting (now + Config.takenWait) } }
      else n

/-- Messages of the Night Exchange join the NIGHT queue in order, each whole, as places free (R127, R129). -/
def State.joinNight : List NightItem → State → State
  | [], s => s.onNight fun n => { n with waiting := [] }
  | x :: rest, s =>
    if s.router.nightQueue.length + x.parts.length ≤ Config.nightPlaces then
      State.joinNight rest
        ((s.onRouter fun r => { r with nightQueue := r.nightQueue ++ x.parts }).onNight fun n => n.joined s.now x rest)
    else s.onNight fun n => { n with waiting := x :: rest }

/-- The counts of the report are set to 0 (R143, R156). -/
def State.zeroCounts (s : State) : State :=
  (s.onRouter fun r => { r with unknownAnswers := 0, guestDropped := 0, notesLost := 0, malformed := 0 }).onGuest fun g =>
    { g with refused := 0, policed := 0 }

/-- A NIGHT_REPORT has joined (R169): the counts are 0, and where it is the report of the stage under way, the last of those that
wait, the night closes. -/
def State.reportJoined (s : State) (r : Report) (rest : List Report) : State :=
  let s1 := ((s.onRouter fun q => { q with serviceQueue := q.serviceQueue ++ r.parts }).zeroCounts).onNight fun n =>
    { n with reports := rest }
  if rest.isEmpty && s1.night.state = .exchanging && s1.night.stage = some .report then
    (s1.produceNight (.closed r.result)).nightClose r.result
  else s1

/-- NIGHT_REPORTs join the SERVICE queue in order, each whole, behind the note backlog (R129, R169). -/
def State.joinReports : List Report → State → State
  | [], s => s
  | r :: rest, s =>
    if s.router.backlog.isEmpty && s.router.serviceQueue.length + r.parts.length ≤ Config.servicePlaces then
      State.joinReports rest (s.reportJoined r rest)
    else s

/-- Everything that waits for places joins where it can. -/
def State.joinAll (s : State) : State :=
  let s1 := (State.joinNight s.night.waiting s).onRouter fun r => joinBacklog Config.backlogPlaces r
  State.joinReports s1.night.reports s1

/-- Producers join, the scheduler acts, and what it freed is taken up again (R129, R131). -/
def State.pump (s : State) : State := s.joinAll.schedule.joinAll

/-! ## The stages after DRAIN (R167 to R169) -/

/-- REPORT is entered: the report is made, the counts in it as they stand now (DESIGN CHOICE, notes/assumptions/86.md), and
waits for SERVICE places (R143, R169). -/
def State.enterReport (s : State) : State :=
  let full := s.night.drainOutcome == some true && s.night.pricesOutcome == some true && s.night.timeOutcome == some true
  let r := s.makeReport (if full then .success else .part)
  s.onNight fun n => { n with stage := some .report, timeUntil := none, reports := n.reports ++ [r] }

/-- TIME is entered; it ends at once where an OFFICE_TIME has been taken (R168). -/
def State.enterTime (s : State) : State :=
  if s.night.timeTaken then (s.onNight fun n => { n with stage := some .time, timeOutcome := some true }).enterReport
  else s.onNight fun n => { n with stage := some .time, timeUntil := some (s.now + Config.timeWait) }

/-- A PRICE frame of this station whose outcome is not reported (R167). -/
def Frame.isPrice (f : Frame) : Bool :=
  match f.payload with
  | .price _ => true
  | _ => false

/-- A NIGHT(PRICES_DONE) is kept for slot 2. -/
def State.doneKept (s : State) : Bool :=
  s.line.kept.any fun d =>
    match d with
    | .frame { payload := .night (.pricesDone _), .. } => true
    | _ => false

/-- PRICES ends when its NIGHT(PRICES_DONE) is placed (R167). -/
def State.checkDone (s : State) : State :=
  if s.doneKept then s
  else (s.onNight fun n => { n with donePending := false, pricesOutcome := n.pricesEnding, pricesEnding := none }).enterTime

/-- Once the end of PRICES is settled and every PRICE frame has its outcome, NIGHT(PRICES_DONE, P) is produced (R167). -/
def State.checkPrices (s : State) : State :=
  if s.night.state = .exchanging && s.night.stage = some .prices && s.night.pricesEnding.isSome then
    if s.night.donePending then s.checkDone
    else if s.holdsFrame Frame.isPrice then s
    else
      let p := match s.night.newest with | some l => min s.items.applied l | none => s.items.applied
      ((s.onNight fun n => { n with donePending := true }).produceNight (.pricesDone p)).checkDone
  else s

/-- PRICES is entered with a BATCH_REQ naming A (R167). -/
def State.enterPrices (s : State) : State :=
  s.onNight fun n =>
    { n with
      stage := some .prices, walk := none, batch := none, stallUntil := none, askedAgain := false, newest := none
      pricesEnding := none, donePending := false, waiting := n.waiting ++ [.batchReq s.items.applied] }

/-- How PRICES will end is settled (R167). -/
def State.settlePrices (s : State) (complete : Bool) : State :=
  (s.onNight fun n => { n with stallUntil := none, pricesEnding := some complete }).checkPrices

/-! ## The drain (R164, R176) -/

def Night.setOutcome (n : Night) (st : Station) (o : DrainOutcome) : Night :=
  { n with drain := n.drain.set st.val { n.drain[st.val] with outcome := o } }

/-- A station counts in the drain: this station, or one whose entry is not UNKNOWN (R164). -/
def State.counted (s : State) (n : Station) : Bool := n == s.self || (s.entry n).isSome

/-- Outcomes of the stations the walk has not reached at deadline 1: CUT, or NONE where UNKNOWN (R163, R170). -/
def State.cutRest (s : State) (ns : List Station) : State :=
  ns.foldl (fun t n => t.onNight fun x => x.setOutcome n (if t.counted n then .cut else .none)) s

/-- DRAIN is complete when every station with an outcome other than NONE is EMPTY (R164). -/
def Night.drained (n : Night) : Bool := n.drain.toList.all fun d => d.outcome == .none || d.outcome == .empty

/-- DRAIN ends and PRICES begins (R164, R163). -/
def State.drainEnd (s : State) : State := (s.onNight fun n => { n with drainOutcome := some n.drained }).enterPrices

/-- A day drain ends (R176): a batch in hand is given up and the rest-until time is 600 s on. -/
def State.dayDrainEnd (s : State) : State :=
  if s.night.dayDrain then
    s.giveUpBatch.onNight fun n =>
      { n with
        dayDrain := false, walk := none, batch := none, attempts := 0, restUntil := some (s.now + Config.restTime) }
  else s

/-- A station's journal used cells: this station's own use, or the peer's last beacon (R176). -/
def State.figure (s : State) (n : Station) : Nat :=
  if n = s.self then s.held.used else match s.entry n with | some e => e.beacon.journalUsed | none => 0

/-- A fresh batch for a target (R165). -/
def State.newBatch (s : State) (n : Station) (phase : BatchPhase) (collected : List Collected) : State :=
  let b : Batch :=
    { target := n, phase := phase, collected := collected, part := none, broken := false, taken := 0
      linkLost := !s.uplinkUp, targetLost := false }
  s.onNight fun x => { x with walk := some n, batch := some b }

/-- The JPUTs of a batch join what waits for the NIGHT queue, in sequence order (R166). -/
def State.putBatch (s : State) (n : Station) (cs : List Collected) : State :=
  s.onNight fun x => { x with waiting := x.waiting ++ cs.map fun c => .jput n c.seq c.data }

/-- Begin a batch (R165): it waits for the link, is pulled locally, or begins with a JPULL. `none`: the local Journal answered
EMPTY. -/
def State.beginBatch (s : State) (n : Station) : Option State :=
  if !s.uplinkUp then some (s.newBatch n .waitLink [])
  else if n = s.self then
    let s1 := s.jpullLocal
    let cs := s1.held.batchRecords.map fun r => { seq := r.seq, data := r.content.bytes r.seq : Collected }
    if cs.isEmpty then none else some ((s1.newBatch n .putting cs).putBatch n cs)
  else some ((s.newBatch n .requested []).produceJournal n (.jpull Config.batchRecords))

/-- Whether the walk drains a station: by night this station and those PRESENT or QUIET (R164); by day this station and those
PRESENT, at the high mark or above (R176). -/
def State.drains (s : State) (n : Station) : Bool :=
  if s.night.dayDrain then (n == s.self || s.present n) && Config.highMark ≤ s.figure n
  else n == s.self || ((s.entry n).isSome && !s.absent n)

/-- The walk goes on over the stations left; it stops at one whose batch has begun, else it has passed station 7. -/
def State.walkOn : List Station → State → State
  | [], s => s.onNight fun n => { n with walk := none, batch := none }
  | n :: rest, s =>
    if s.drains n then
      match (s.onNight fun x => { x with attempts := 0 }).beginBatch n with
      | some t => t
      | none => State.walkOn rest (s.jpullLocal.onNight fun x => x.setOutcome n .empty)
    else
      State.walkOn rest
        (if s.night.dayDrain then s
          else s.onNight fun x => x.setOutcome n (if s.absent n then .absent else .none))

/-- After the walk: past station 7 DRAIN ends, or the day drain does (R164, R176). -/
def State.walkDone (s : State) : State :=
  if s.night.walk.isSome then s else if s.night.dayDrain then s.dayDrainEnd else s.drainEnd

/-- The stations after one, in ascending order. -/
def stationsAfter (n : Station) : List Station := allStations.filter fun m => n < m

/-- A station's drain is finished (R164): an empty journal shows that its CARRIED releases removed all they named, and after any
other end no batch shows it. After deadline 1 the rest is CUT and DRAIN ends (R170). -/
def State.finishStation (s : State) (n : Station) (o : DrainOutcome) : State :=
  let s1 := s.onNight fun x =>
    { (x.releasesPresumed n).setOutcome n o with batch := none, walk := none, attempts := 0 }
  if !s1.night.dayDrain && s1.night.d1 then (s1.cutRest (stationsAfter n)).drainEnd
  else (State.walkOn (stationsAfter n) s1).walkDone

/-- Between batches (R164, R166, R170, R176): the station is finished, or its next batch begins. `lost`: its entry became ABSENT
during the batch; after deadline 1 it is CUT all the same (DEDUCED, notes/assumptions/83.md). -/
def State.nextBatch (s : State) (n : Station) (lost : Bool) : State :=
  if !s.night.dayDrain && s.night.d1 then s.finishStation n .cut
  else if lost then s.finishStation n .absent
  else if 3 ≤ s.night.attempts then s.finishStation n .givenUp
  else if s.night.dayDrain && s.figure n < Config.drainEndMark then s.finishStation n .none
  else
    match s.beginBatch n with
    | some t => t
    | none => s.jpullLocal.finishStation n .empty

/-- A failed attempt (R166): it counts unless the carrier link was DOWN during the batch. -/
def State.failedAttempt (s : State) (b : Batch) : State :=
  (s.onNight fun n =>
    { n with batch := none, attempts := if b.linkLost then n.attempts else n.attempts + 1 }).nextBatch b.target b.targetLost

/-- A batch is released (R166): a JREL names the taken-through number, and the next JPULL follows. -/
def State.releaseBatch (s : State) (b : Batch) : State :=
  ((s.release b).onNight fun n => { n with batch := none, attempts := 0 }).nextBatch b.target b.targetLost

/-- A collection ends (R165, R166): JPUTs for its complete records, or a failed attempt. -/
def State.collectionEnd (s : State) (b : Batch) : State :=
  if b.collected.isEmpty then s.failedAttempt b
  else
    (s.onNight fun n => { n with batch := some { b with phase := .putting, part := none } }).putBatch b.target b.collected

/-- This station has a journal pull outstanding to a peer (R15, R165): its JPULL is in slot 8, or the collection is under way. A
JPULL is told by its destination alone (DESIGN CHOICE, notes/assumptions/84.md). -/
def State.pullOutstanding (s : State) (n : Station) : Bool :=
  match s.night.batch with
  | none => false
  | some b =>
    b.target == n &&
      match b.phase with
      | .collecting _ => true
      | .requested =>
        match (s.slot 8).frame with
        | some f => f.dest == some n && (match f.payload with | .jpull _ => true | _ => false)
        | none => false
      | _ => false

/-- The segment is the one the collection expects (R165). -/
def Batch.expects (b : Batch) (g : Jseg) : Bool :=
  match b.part with
  | some p => g.seq == p.seq && g.index == p.next
  | none =>
    g.index == 0 &&
      match b.collected.getLast? with
      | some c => g.seq == c.seq + 1
      | none => true

/-- The batch after an expected segment: a part record grows or is completed. -/
def Batch.takeSegment (b : Batch) (g : Jseg) : Batch :=
  let data := (match b.part with | some p => p.data | none => []) ++ g.data
  if g.lastSeg then { b with collected := b.collected ++ [{ seq := g.seq, data := data }], part := none }
  else { b with part := some { seq := g.seq, next := g.index + 1, data := data } }

/-- The first segment of a batch shows the oldest record of its target's journal, and so what the release before it removed
(R101, R164). -/
def State.firstShown (s : State) (b : Batch) (g : Jseg) : State :=
  if b.collected.isEmpty && b.part.isNone then s.onNight fun x => x.releasesShown b.target (some g.seq) else s

/-- A JSEG from the target of the pull (R165). A broken collection goes on to one of the four ends (DESIGN CHOICE,
notes/assumptions/64.md). -/
def State.collect (s : State) (n : Station) (g : Jseg) : State :=
  match s.night.batch with
  | none => s
  | some b =>
    if g.empty then s.finishStation n .empty
    else
      let b1 := { b with phase := .collecting (s.now + Config.segmentWait) }
      if b1.broken then s.onNight fun x => { x with batch := some b1 }
      else if b1.expects g then
        let b2 := b1.takeSegment g
        let s1 := s.firstShown b1 g
        if g.lastSeg && g.lastRecord then s1.collectionEnd b2
        else s1.onNight fun x => { x with batch := some b2 }
      else s.onNight fun x => { x with batch := some { b1 with broken := true, part := none } }

/-- Slot 8 reports on a JPULL (R165): CARRIED starts the segment wait; UNHEARD or SILENCED ends the collection with nothing
collected. One of an earlier batch of the same target counts too (DESIGN CHOICE, notes/assumptions/84.md). -/
def State.jpullOutcome (s : State) (dest : Option Station) (carried : Bool) : State :=
  match s.night.batch with
  | none => s
  | some b =>
    let open? := match b.phase with | .requested => true | .collecting _ => true | _ => false
    if dest ≠ some b.target || !open? then s
    else if carried then
      s.onNight fun x => { x with batch := some { b with phase := .collecting (s.now + Config.segmentWait) } }
    else s.failedAttempt b

/-- The target's entry has become ABSENT (R164, R165). -/
def State.targetAbsent (s : State) (n : Station) : State :=
  match s.night.batch with
  | none => s
  | some b =>
    if b.target ≠ n then s
    else
      let b1 := { b with targetLost := true }
      match b.phase with
      | .waitLink => s.finishStation n .absent
      | .requested => s.collectionEnd b1
      | .collecting _ => s.collectionEnd b1
      | _ => s.onNight fun x => { x with batch := some b1 }

/-- The carrier link is UP: a batch that waits for it begins (R165), as one that has not seen the link DOWN (DESIGN CHOICE,
notes/assumptions/65.md). -/
def State.batchResume (s : State) : State :=
  match s.night.batch with
  | none => s
  | some b => if b.phase = .waitLink then s.nextBatch b.target false else s

/-- The carrier link is DOWN during a batch (R166). -/
def State.batchLinkLost (s : State) : State :=
  s.onNight fun n => { n with batch := n.batch.map fun b => { b with linkLost := true } }

/-- CONNECT ends (R163): DRAIN, or PRICES with every station CUT where the D1 mark is set. -/
def State.connectEnd (s : State) : State :=
  if s.night.d1 then
    ((s.cutRest allStations).onNight fun n => { n with drainOutcome := some false }).enterPrices
  else (State.walkOn allStations (s.onNight fun n => { n with stage := some .drain })).walkDone

/-! ## Waits of a batch (R165, R166) -/

/-- SEGMENT_WAIT_EXPIRY (R165). -/
def State.segmentExpiry (s : State) : State :=
  match s.night.batch with
  | some b =>
    match b.phase with
    | .collecting d => if d ≤ s.now then s.collectionEnd b else s
    | _ => s
  | none => s

/-- TAKEN_WAIT_EXPIRY (R166): released where head office has taken the batch's oldest record, else a failed attempt. -/
def State.takenExpiry (s : State) : State :=
  match s.night.batch with
  | some b =>
    match b.phase with
    | .awaiting d => if s.now < d then s else if b.released.isEmpty then s.failedAttempt b else s.releaseBatch b
    | _ => s
  | none => s

/-- JTAKEN (R166): it raises the taken-through number of the batch of its station; at the newest JPUT the batch is released. -/
def State.jtaken (s : State) (station seq : Nat) : State :=
  match s.night.batch with
  | some b =>
    let puts := match b.phase with | .putting => true | .awaiting _ => true | _ => false
    if !puts || b.target.val ≠ station then s
    else
      let b1 := { b with taken := max b.taken seq }
      match b1.collected.getLast? with
      | some c => if c.seq ≤ b1.taken then s.releaseBatch b1 else s.onNight fun x => { x with batch := some b1 }
      | none => s
  | none => s

/-! ## The day drain (R175, R176) -/

/-- The highest undrained-night count among this station and its PRESENT peers is 1 or more (R175). -/
def State.undrainedAny (s : State) : Bool :=
  1 ≤ s.night.undrained ||
    allStations.any fun n =>
      match s.entry n with
      | some e => e.presence == .present && 1 ≤ e.beacon.undrained
      | none => false

/-- This station, or the last beacon of some PRESENT peer, stands at the high mark (R175). -/
def State.highAny (s : State) : Bool :=
  Config.highMark ≤ s.held.used || allStations.any fun n => s.present n && Config.highMark ≤ s.figure n

/-- The rest-until time has passed or is absent (R175). -/
def State.rested (s : State) : Bool :=
  match s.night.restUntil with
  | some t => t ≤ s.now
  | none => true

/-- The day drain's conditions with a second of the day as the time (R175). -/
def State.drainCalledAt (s : State) (second : Nat) : Bool :=
  s.holdsRole && s.undrainedAny && s.clock.valid && s.hoursAt second && !s.windowOpen && s.highAny && !s.night.dayDrain &&
    s.rested

/-- The day drain's conditions (R175). -/
def State.drainCalled (s : State) : Bool := s.drainCalledAt s.clock.second

/-- A day drain begins (R175): the drain record is cleared, the guests are shut out, and a walk of all stations starts. -/
def State.beginDayDrain (s : State) : State :=
  let s1 := s.onNight fun n =>
    { n.emptyDrain with dayDrain := true, restUntil := none, attempts := 0 }
  (State.walkOn allStations s1.shutGuests).walkDone

/-- The day drain is tested with a second of the day as the time, and begins where all its conditions hold (R175). -/
def State.testDayDrainAt (s : State) (second : Nat) : State := if s.drainCalledAt second then s.beginDayDrain else s

/-- The day drain is tested (R175). -/
def State.testDayDrain (s : State) : State := s.testDayDrainAt s.clock.second

/-- What a command that moved the night, the journal or the branch's picture leaves to be done: PRICES ends where it can,
messages join their queues, and the day drain is tested (R129, R167, R175). -/
def State.settle (s : State) : State := s.checkPrices.pump.testDayDrain.pump

end Sys2Proof.Machine
end

