-- ==== Sys2Proof/Machine/Sales.lean ====
section
/-! DEFINITION. The commands that end a basket: CLOSE, CANCEL and the lane reset (R80, R81, R88). The figure of used cells they
move may call for a day drain (R93, R175), which `settle` tests. -/

namespace Sys2Proof.Machine

/-- CLOSE (R81). -/
def State.doClose (r : Request) (s : State) : State :=
  s.request r { mode := some .till, guarded := none, states := [.paid] } fun t => (State.closeWork r t).settle

/-- A CANCEL taken while the basket is in AUTH_WAIT (R69, R80). -/
def State.cancelsCard (s : State) (l : Lane) : Bool :=
  s.laneTakes l && (s.lane l).inFlight.isSome && decide ((s.lane l).basket.state = .authWait)

/-- CANCEL (R80): the one request taken while another is in flight. -/
def State.doCancel (r : Request) (s : State) : State :=
  if s.cancelsCard r.lane then
    match s.screen r { mode := some .till, guarded := none, states := [.authWait] } with
    | some code => s.answer r.lane r.number code .none
    | none => s.cancelAuth r
  else s.request r (cancelForm (s.lane r.lane).basket) fun t => (State.cancelBasket r t).settle

/-- LANE_RESET (R88): nothing on an absent lane. -/
def State.doLaneReset (l : Lane) (s : State) : State :=
  if !s.lanePresent l then s
  else
    let s1 := s.breakLane l
    if (s1.lane l).basket.state = .closed then s1 else (s1.writeOff l).settle

end Sys2Proof.Machine
end

