-- ==== Sys2Proof/Machine/LaneCommands.lean ====
section
/-! DEFINITION. The commands of the Lane Controller and the Journal (chapters 3 to 5). -/

namespace Sys2Proof.Machine

/-- LANE_FRAME_BAD (R68). -/
def execLaneFrameBad (lane : Lane) (s : State) : Result := run (State.doFrameBad lane) s

/-- OPEN (R74). -/
def execOpen (r : Request) (s : State) : Result := run (State.doOpen r) s

/-- SCAN (R56). -/
def execScan (r : Request) (item count : Nat) (s : State) : Result := run (State.doPrice r .unit item count) s

/-- WEIGH (R57). -/
def execWeigh (r : Request) (item grams : Nat) (s : State) : Result := run (State.doPrice r .weighed item grams) s

/-- VOID (R62). -/
def execVoid (r : Request) (line : Nat) (s : State) : Result := run (State.doVoid r line) s

/-- ASK (R76). -/
def execAsk (r : Request) (item : Nat) (s : State) : Result := run (State.doAsk r item) s

/-- TOTAL (R77). -/
def execTotal (r : Request) (s : State) : Result := run (State.doTotal r) s

/-- RESUME (R77). -/
def execResume (r : Request) (s : State) : Result := run (State.doResume r) s

/-- CASH (R78). -/
def execCash (r : Request) (amount : Nat) (s : State) : Result := run (State.doCash r amount) s

/-- CARD (R79). -/
def execCard (r : Request) (amount : Nat) (s : State) : Result := run (State.doCard r amount) s

/-- CANCEL (R80). -/
def execCancel (r : Request) (s : State) : Result := run (State.doCancel r) s

/-- CLOSE (R81). -/
def execClose (r : Request) (s : State) : Result := run (State.doClose r) s

/-- AUTH_TIMER_EXPIRY (R84). -/
def execAuthTimerExpiry (lane : Lane) (s : State) : Result := run (State.doAuthTimer lane) s

/-- TAKE_AUTHA (R83): a LATE_AUTH note may move the used cells (R93, R175). -/
def execTakeAutha (s : State) : Result := run (fun t => t.doTakeAutha.settle) s

/-- LATE_ENTRY_EXPIRY (R86). -/
def execLateEntryExpiry (lane : Lane) (s : State) : Result := run (State.doLateExpiry lane) s

/-- LANE_RESET (R88). -/
def execLaneReset (lane : Lane) (s : State) : Result := run (State.doLaneReset lane) s

/-- TAKE_JPULL (R99). -/
def execTakeJpull (s : State) : Result := run State.takeJpull s

/-- TAKE_JREL (R101): the head of the Journal inbox, where it is a JREL. -/
def State.doTakeJrel (s : State) : State :=
  match s.line.journalInbox with
  | { sender := n, payload := .jrel seq } :: rest =>
    ((s.onLine fun l => { l with journalInbox := rest }).jrelFrom (.peer n) seq).settle
  | _ => s

def execTakeJrel (s : State) : Result := run State.doTakeJrel s

/-- UNKNOWN_REQUEST (R70). -/
def execUnknownRequest (lane : Lane) (number : Nat) (s : State) : Result := run (State.doUnknown lane number) s

/-- LANE_ANSWER_SENT (R69). -/
def execLaneAnswerSent (lane : Lane) (s : State) : Result := run (State.doAnswerSent lane) s

/-- LANE_BREAK_END (R88). -/
def execLaneBreakEnd (lane : Lane) (s : State) : Result := run (State.doBreakEnd lane) s

end Sys2Proof.Machine
end

