-- ==== Sys2Proof/Machine/Window.lean ====
section
/-! DEFINITION. The night window: opening, claiming, yielding, deadlines, followers and takeover (sections 9.1, 9.2, 9.4). -/

namespace Sys2Proof.Machine

/-! ## Claiming and following -/

def Frame.isClaim (f : Frame) : Bool :=
  match f.payload with
  | .claim => true
  | _ => false

/-- Enter CLAIMING (R160): a CLAIM for slot 2, and the 2 s claim wait. -/
def State.claim (s : State) : State :=
  let s1 := s.onNight fun n => { n with state := .claiming, claimUntil := some (s.now + Config.claimWait) }
  if s1.silenced then s1 else s1.place (.frame { dest := none, payload := .claim, applied := false })

/-- The takeover test of a follower (R172). -/
def State.takeover (s : State) : State :=
  let gone := match s.night.exchange with | none => true | some n => s.absent n
  if s.night.state = .following && !s.night.d1 && !s.start.profileBad && s.uplinkUp && gone then s.claim else s

/-- A claimer follows (R161): the claim wait ends and its CLAIM is withdrawn if it is still WAITING, or kept (DEDUCED,
notes/assumptions/31.md); one SENDING goes on by its attempt's outcome (R8). -/
def State.follow (s : State) (exchange : Option Station) : State :=
  (s.onNight fun n =>
    { n with
      state := .following, claimUntil := none
      exchange := match exchange with | some e => some e | none => n.exchange }).withdrawWaiting .night Frame.isClaim

/-- An exchange passes to another station (R162, R173): its batch is given up, and no report of it is queued. The drain record is
left as it stands, and the JRELs on their way are forgotten: what they remove is not counted (R162, R171). -/
def State.losesExchange (s : State) : State :=
  s.giveUpBatch.onNight fun n => { n.dropReport with drain := s.night.drain, releases := [] }

/-- An exchanging station yields (R162): it gives its exchange up and follows. -/
def State.yield (s : State) (winner : Option Station) : State :=
  s.losesExchange.onNight fun n => { n.leaveExchange with state := .following, exchange := winner }

/-- A rival is met while EXCHANGING (R162). -/
def State.meetRival (s : State) (n : Station) : State :=
  if n < s.self then s.yield (some n) else s.produceNight .held

/-! ## The window (R159, R160) -/

/-- CLOSED returns to IDLE (R159). -/
def State.nightIdle (s : State) : State :=
  if s.night.state = .closed then
    s.onNight fun n =>
      { n.emptyDrain with
        state := .idle, result := .none, exchange := none, drainOutcome := none, pricesOutcome := none
        timeOutcome := none, refused := [], refusedCount := 0 }
  else s

/-- What every opening does (R160, R176): a day drain ends, by whatever cause the window opens (DESIGN CHOICE,
notes/assumptions/87.md), the D1 mark is cleared, the drain record emptied, and the guests are shut out (R132, R154). The window
opens FOLLOWING; the caller goes on to a claim where its case is one. -/
def State.windowBegins (s : State) (exchange : Option Station) (d1 : Bool) : State :=
  (s.dayDrainEnd.onNight fun n =>
    { n.emptyDrain with state := .following, d1 := d1, exchange := exchange }).shutGuests

/-- The lowest PRESENT peer whose last beacon shows EXCHANGING (R160). -/
def State.exchangingPeer (s : State) : Option Station :=
  allStations.find? fun n =>
    match s.entry n with
    | some e => e.presence == .present && e.beacon.nightState == .exchanging
    | none => false

/-- Seconds of the day since W0, counted forward across midnight (R160). -/
def State.sinceOpen (s : State) : Nat :=
  (s.clock.second + Config.daySeconds - s.start.profile.w0 * 60) % Config.daySeconds

def State.beyondD1 (s : State) : Bool := s.start.profile.d1 * 60 ≤ s.sinceOpen
def State.beyondD2 (s : State) : Bool := s.start.profile.d2 * 60 ≤ s.sinceOpen

/-- The time of day reaches W0, or a setting passes it (R159, R160): a CLOSED night returns to IDLE, and an IDLE one opens by
the first case that applies. Beyond deadline 2 it closes FAILED with no claim made. -/
def State.reachOpen (s : State) : State :=
  let s0 := if s.clock.valid then s.nightIdle else s
  if s0.night.state ≠ .idle || !s0.clock.valid then s0
  else if s0.beyondD2 then (s0.windowBegins none true).nightClose .failed
  else if s0.start.profileBad then s0.windowBegins none s0.beyondD1
  else if !s0.uplinkUp then s0.windowBegins none s0.beyondD1
  else
    match s0.exchangingPeer with
    | some n => s0.windowBegins (some n) s0.beyondD1
    | none => (s0.windowBegins none s0.beyondD1).claim

/-- The clock has become valid inside the window (R160): it opens FOLLOWING, and the takeover test is made (R172). -/
def State.openLate (s : State) : State :=
  if s.night.state = .idle && !s.beyondD2 then (s.windowBegins s.exchangingPeer s.beyondD1).takeover else s

/-- A NIGHT(HELD) taken while IDLE with the Clock valid (R160). The D1 mark is left clear, whatever the time of day (DESIGN
CHOICE, notes/assumptions/88.md). -/
def State.openHeld (s : State) (n : Station) : State :=
  if s.clock.valid then (s.windowBegins (some n) false).takeover else s

/-! ## The claim wait (R161) -/

/-- CLAIM_WAIT_EXPIRY (R161): the station exchanges, from CONNECT on; SILENCED it follows with no exchange station. -/
def State.claimExpiry (s : State) : State :=
  match s.night.claimUntil with
  | none => s
  | some t =>
    if s.night.state ≠ .claiming || s.now < t then s
    else if s.silenced then
      s.onNight fun n => { n with state := .following, claimUntil := none, exchange := none }
    else
      let s1 := (s.onNight fun n =>
        { n.leaveExchange with
          state := .exchanging, stage := some .connect, exchange := some s.self, refused := [], refusedCount := 0
          drainOutcome := none, pricesOutcome := none, timeOutcome := none }).produceNight .held
      if s1.uplinkUp then s1.connectEnd else s1

/-! ## Deadlines (R170) -/

/-- Deadline 1 is reached (R170): the mark is set, and a drain with no batch at work ends at once. -/
def State.reachD1 (s : State) : State :=
  if !s.windowOpen then s
  else
    let s1 := s.onNight fun n => { n with d1 := true }
    match s1.night.batch with
    | some b => if b.phase = .waitLink then s1.finishStation b.target .cut else s1
    | none => s1

/-- The last report of a list with the result FAILED. -/
def failLast (rs : List Report) : List Report :=
  match rs.getLast? with
  | some r => rs.dropLast ++ [{ r with result := .failed }]
  | none => []

/-- The report at deadline 2 (R170): that of a REPORT stage under way goes out FAILED; else one is made where the link is UP. -/
def State.failReport (s : State) : State :=
  if s.night.stage = some .report then s.onNight fun n => { n with reports := failLast n.reports }
  else if s.uplinkUp then s.onNight fun n => { n with reports := n.reports ++ [s.makeReport .failed] }
  else s

/-- Deadline 2 is reached (R170): an open window closes FAILED. Where it gives up the batch that deadline 1 left to finish, the
report has its station and those the walk has not reached at NONE (DESIGN CHOICE, notes/assumptions/77.md). -/
def State.reachD2 (s : State) : State :=
  match s.night.state with
  | .exchanging => (s.giveUpBatch.produceNight (.closed .failed)).failReport.nightClose .failed
  | .claiming => s.nightClose .failed
  | .following => s.nightClose .failed
  | _ => s

/-! ## Frames taken from the Night inbox (R161, R162, R171, R173) -/

/-- Take the head of the Night inbox where a test picks it. -/
def State.popNight (s : State) : State := s.onLine fun l => { l with nightInbox := l.nightInbox.tail }

/-- TAKE_CLAIM: a claimer follows a lower-numbered one, an exchanging station answers HELD (R161, R162). -/
def State.claimTaken (s : State) (n : Station) : State :=
  match s.night.state with
  | .claiming => if n < s.self then s.follow none else s
  | .exchanging => s.produceNight .held
  | _ => s

/-- NIGHT(HELD) from a station, by the night state (R160, R161, R162, R171). -/
def State.heldTaken (s : State) (n : Station) : State :=
  match s.night.state with
  | .idle => s.openHeld n
  | .claiming => s.follow (some n)
  | .exchanging => s.meetRival n
  | .following => s.onNight fun x => { x with exchange := some n }
  | .closed => s

/-- A claimer that takes any NIGHT frame follows its sender (R161). -/
def State.claimerFollows (s : State) (n : Station) : State :=
  if s.night.state = .claiming then s.follow (some n) else s

/-- NIGHT(PRICES_DONE, L) (R171). -/
def State.doneTaken (s : State) (n : Station) (l : Nat) : State := (s.claimerFollows n).handDone l

/-- NIGHT(CLOSED, r) from another station (R162, R173). -/
def State.closedTaken (s : State) (r : NightResult) : State :=
  match s.night.state with
  | .claiming => (s.follow none).nightClose r
  | .following => s.nightClose r
  | .exchanging => s.losesExchange.nightClose r
  | _ => s

/-- NIGHT(CLOSED, r) from a station: a claimer first takes it as its exchange station (R161, R173). -/
def State.closedFrom (s : State) (n : Station) (r : NightResult) : State := (s.claimerFollows n).closedTaken r

/-- A beacon of a PRESENT peer that shows EXCHANGING (R161, R162). -/
def State.exchangeHeard (s : State) (n : Station) : State :=
  match s.night.state with
  | .claiming => s.follow (some n)
  | .exchanging => s.meetRival n
  | _ => s

/-- The carrier link has come UP (R163, R165, R172). -/
def State.nightLinkUp (s : State) : State :=
  if s.night.state = .exchanging && s.night.stage = some .connect then s.connectEnd else s.batchResume.takeover

/-- A peer has become ABSENT (R164, R172): the target of a batch is lost, or a follower takes over. -/
def State.nightAbsent (s : State) (n : Station) : State :=
  let s1 := s.targetAbsent n
  if s1.night.exchange = some n then s1.takeover else s1

/-- The standing has become SILENCED (R162, R176). -/
def State.nightSilenced (s : State) : State :=
  if s.night.state = .exchanging then s.yield none else s.dayDrainEnd

end Sys2Proof.Machine
end

