-- ==== Sys2Proof/Machine/ClockOps.lean ====
section
/-! DEFINITION. Setting the Clock, day rolls and times of day (section 10.4). -/

namespace Sys2Proof.Machine

/-- The times of interest that a setting can pass, in the order of R184's table. -/
inductive TimeEvent where
  | midnight | w0 | d1 | d2 | openEdge | closeEdge
  deriving DecidableEq, Repr

/-- Seconds of a minute of the day counted past midnight (R159). -/
def minuteSecond (minute : Nat) : Nat := (minute % 1440) * 60

/-- The time of day of each, in seconds. -/
def State.timeOf (s : State) : TimeEvent → Nat
  | .midnight => 0
  | .w0 => minuteSecond s.start.profile.w0
  | .d1 => minuteSecond (s.start.profile.w0 + s.start.profile.d1)
  | .d2 => minuteSecond (s.start.profile.w0 + s.start.profile.d2)
  | .openEdge => minuteSecond s.start.profile.openMinute
  | .closeEdge => minuteSecond s.start.profile.closeMinute

def allTimes : List TimeEvent := [.midnight, .w0, .d1, .d2, .openEdge, .closeEdge]

/-- The open hours or the clock's setting are worked out again (R144, R175, R176). -/
def State.hoursChanged (s : State) : State :=
  (if s.night.dayDrain && (!s.openHours || !s.clock.valid) then s.dayDrainEnd else s).endIfClosed

/-- The close minute is passed: the time of day leaves open hours, which ends a day drain and every client, whatever the time
that shows now (R154, R176, R184). -/
def State.hoursLeft (s : State) : State := s.dayDrainEnd.endGuests true

/-- A day roll's effects on its readers (R155, R159, R182). -/
def State.dayRollEffects (s : State) : State := s.nightIdle.rollGuests

/-- The open minute is passed: the time of day enters open hours, whatever the time that shows now. No closed condition begins
by it, and a day drain may (R144, R175, R184; DEDUCED, notes/assumptions/12.md). -/
def State.hoursEntered (s : State) : State := s.testDayDrainAt (s.timeOf .openEdge)

/-- W0 is passed: where the window opens and closes at once, the day drain is tested at that closing (R160, R175, R184). -/
def State.openPassed (s : State) : State := s.reachOpen.testDayDrainAt (s.timeOf .w0)

/-- Deadline 2 is passed: where the window closes, the day drain is tested at that closing (R170, R175, R184). -/
def State.d2Passed (s : State) : State := if s.windowOpen then s.reachD2.testDayDrainAt (s.timeOf .d2) else s

/-- A time of interest that a setting passes is reported to its readers (R184). -/
def State.timeReached (s : State) : TimeEvent → State
  | .midnight => s.dayRollEffects
  | .w0 => s.openPassed
  | .d1 => s.reachD1
  | .d2 => s.d2Passed
  | .openEdge => s.hoursEntered
  | .closeEdge => s.hoursLeft

/-- How long before a new second of the day a time was last passed. -/
def passedAgo (new t : Nat) : Nat := (new + Config.daySeconds - t) % Config.daySeconds

/-- Insert into a list kept with the longest ago first; equals keep their order. -/
def insertAgo (x : Nat × TimeEvent) : List (Nat × TimeEvent) → List (Nat × TimeEvent)
  | [] => [x]
  | y :: ys => if y.1 < x.1 then x :: y :: ys else y :: insertAgo x ys

/-- The times a forward setting of `delta` seconds to a new second passes, in the order they fall, each at its last passing
(R184). Those that fall on one second come in the order of the table (DESIGN CHOICE, notes/assumptions/71.md). -/
def State.passed (s : State) (new delta : Nat) : List TimeEvent :=
  let ages := (allTimes.map fun e => (passedAgo new (s.timeOf e), e)).filter fun x => x.1 < delta
  (ages.foldl (fun xs x => insertAgo x xs) []).map (·.2)

def State.putTime (s : State) (day second : Nat) : State :=
  s.onClock fun c => { c with valid := true, day := day, second := second, sub := 0 }

/-- The clock becomes valid (R183): no time counts as passed; the window may open (R160). -/
def State.becomeValid (s : State) (day second : Nat) : State := (s.putTime day second).openLate.hoursChanged

/-- Days from the old day number to the new, modulo 65,536 (R184). -/
def dayDiff (new old : Nat) : Nat := (new + Config.dayModulus - old) % Config.dayModulus

/-- A setting of the Clock by NIGHT(TIME) or OFFICE_TIME (R183, R184). A forward one reports the times it passes, each with the
tests due at it, and then that the Clock was set. -/
def State.setClock (s : State) (day second : Nat) : State :=
  if !s.clock.valid then s.becomeValid day second
  else
    let days := dayDiff day s.clock.day
    if days = 0 && second = s.clock.second then s
    else if (1 ≤ days && days ≤ 32767) || (days = 0 && s.clock.second < second) then
      let delta := days * Config.daySeconds + second - s.clock.second
      let s1 := s.putTime day second
      ((s1.passed second delta).foldl State.timeReached s1).hoursChanged
    else (s.putTime day second).hoursChanged

/-- Adoption from a beacon by an invalid clock (R183). -/
def State.adoptClock (s : State) (b : Beacon) : State :=
  if !s.clock.valid && b.clockValid then s.becomeValid b.day b.second else s

/-- DAY_ROLL (R182): the second of day would pass 86,399. -/
def State.doDayRoll (s : State) : State :=
  if s.clock.valid && s.clock.second == Config.daySeconds - 1 && 1000 ≤ s.clock.sub then
    ((s.onClock fun c => { c with second := 0, sub := 0, day := (c.day + 1) % Config.dayModulus }).dayRollEffects).settle
  else s

/-- A valid Clock stands at the start of the minute of a time of interest (R182). -/
def State.standsAt (s : State) (e : TimeEvent) : Bool := s.clock.valid && s.clock.second == s.timeOf e

/-- WINDOW_OPEN_TIME (R160). -/
def State.doWindowOpen (s : State) : State := if s.standsAt .w0 then s.reachOpen.settle else s

/-- DEADLINE_1 (R170). -/
def State.doDeadline1 (s : State) : State := if s.standsAt .d1 then s.reachD1.settle else s

/-- DEADLINE_2 (R170). -/
def State.doDeadline2 (s : State) : State := if s.standsAt .d2 then s.reachD2.settle else s

/-- OPEN_HOURS_EDGE (R144, R175). -/
def State.doHoursEdge (s : State) : State :=
  if s.standsAt .openEdge || s.standsAt .closeEdge then s.hoursChanged.settle else s

/-- NIGHT(TIME, t) (R171). -/
def State.timeTaken (s : State) (n : Station) (day second : Nat) : State := (s.claimerFollows n).setClock day second

/-- OFFICE_TIME (R168): taken once in an exchange; the Clock is set, NIGHT(TIME) produced, and TIME ends complete. A first one in
REPORT sets the Clock and is announced, and TIME stays incomplete (DESIGN CHOICE, notes/assumptions/70.md). -/
def State.officeTime (s : State) (day second : Nat) : State :=
  if s.night.state ≠ .exchanging || s.night.timeTaken then s
  else
    let s1 := (s.onNight fun n => { n with timeTaken := true }).setClock day second
    let s2 := s1.produceNight (.time s1.clock.day s1.clock.second)
    if s2.night.state = .exchanging && s2.night.stage = some .time then
      (s2.onNight fun n => { n with timeOutcome := some true }).enterReport
    else s2

/-- TIME_WAIT_EXPIRY (R168). -/
def State.timeExpiry (s : State) : State :=
  match s.night.timeUntil with
  | none => s
  | some t => if t ≤ s.now then (s.onNight fun n => { n with timeOutcome := some false }).enterReport else s

end Sys2Proof.Machine
end

