-- ==== Sys2Proof/Machine/RosterOps.lean ====
section
/-! DEFINITION. The Roster (sections 1.6 and 1.7): beacons out and in, entry ages, the gateway. -/

namespace Sys2Proof.Machine

/-! ## The gateway (R22) -/

/-- A station qualifies as gateway (R22). -/
def State.qualifies (s : State) (n : Station) : Bool :=
  if n = s.self then s.uplinkUp && !s.silenced
  else
    match s.entry n with
    | some e => e.presence == .present && e.beacon.uplinkUp
    | none => false

/-- The lowest-numbered station that qualifies (R22). -/
def State.gatewayNow (s : State) : Option Station := allStations.find? s.qualifies

/-- The gateway is worked out again; a role laid down ends the guests and a day drain (R125, R154, R176). -/
def State.recalcGateway (s : State) : State :=
  let s1 := s.onRoster fun r => { r with gateway := s.gatewayNow }
  if s.holdsRole && !s1.holdsRole then (s1.dayDrainEnd).endGuests true else s1

/-- The gateway and the journal pressure are worked out again (R21). -/
def State.rosterRecalc (s : State) : State := s.recalcPressure.recalcGateway

/-! ## Beacons out (R18, R19) -/

def State.beaconFrame (s : State) : Frame := { dest := none, payload := .beacon s.beacon, applied := false }

/-- A due beacon meets slot 6 (R19): placed, refreshed in place, or kept until the attempt ends. -/
def State.putBeacon (s : State) : State :=
  match s.slot 6 with
  | .free => if s.silenced then s else s.setSlot 6 (.held .waiting s.beaconFrame 0 false)
  | .held .waiting _ u w => s.setSlot 6 (.held .waiting s.beaconFrame u w)
  | .held .sending .. => s.onLine fun l => { l with beaconKept := true }

/-- BEACON_DUE (R19): the next is due 1 s after this one was due. -/
def State.doBeaconDue (s : State) : State :=
  match s.line.nextBeacon with
  | none => s
  | some t =>
    if t ≤ s.now then (s.onLine fun l => { l with nextBeacon := some (t + Config.beaconPeriod) }).putBeacon else s

/-- After an attempt on slot 6, a beacon kept for it is placed or refreshes the slot (R19). -/
def State.keptBeacon (s : State) : State :=
  if s.line.beaconKept then (s.onLine fun l => { l with beaconKept := false }).putBeacon else s

/-! ## Beacons in (R20, R21) -/

def State.setEntry (s : State) (n : Station) (e : PeerEntry) : State :=
  s.onRoster fun r => { r with entries := r.entries.set n.val (some e) }

/-- A peer entry becomes PRESENT (R10, R37, R42, R181, R186). -/
def State.becamePresent (s : State) : State :=
  let s1 := s.onLine fun l => { l with alone := false }
  if s1.silenced then s1 else s1.flushDeferred.resendNotes.tryPull

/-- An accepted BEACON (R20, R21). -/
def State.beaconHeard (s : State) (n : Station) (b : Beacon) : State :=
  let was := s.present n
  let s1 := s.setEntry n { presence := .present, lastHeard := s.now, beacon := b }
  let s2 := (s1.leadHeard n b.applied).adoptClock b
  let s3 := if was then s2 else s2.becamePresent
  let s4 := if b.nightState = .exchanging then s3.exchangeHeard n else s3
  s4.rosterRecalc.settle

/-! ## Entry ages (R20) -/

/-- ENTRY_QUIET (R20). -/
def State.doEntryQuiet (n : Station) (s : State) : State :=
  match s.entry n with
  | none => s
  | some e =>
    if e.presence = .present && e.lastHeard + Config.quietAfter ≤ s.now then
      ((s.setEntry n { e with presence := .quiet }).peerLeft n).checkReady.rosterRecalc.settle
    else s

/-- The Journal hears that a puller has become ABSENT (R102). -/
def State.pullerAbsent (s : State) (n : Station) : State :=
  match s.journal with
  | none => s
  | some b => if b.puller = .peer n then s.endOwnerBatch else s

/-- ENTRY_ABSENT (R20). -/
def State.doEntryAbsent (n : Station) (s : State) : State :=
  match s.entry n with
  | none => s
  | some e =>
    if e.presence = .quiet && e.lastHeard + Config.absentAfter ≤ s.now then
      ((((s.setEntry n { e with presence := .absent }).servingLost n).pullerAbsent n).nightAbsent n).rosterRecalc.settle
    else s

end Sys2Proof.Machine
end

