-- ==== Sys2Proof/Machine/Line.lean ====
section
/-! DEFINITION. The Line Port's own steps (chapter 1): line rests, the ends of attempts, SILENCED and line restart, frames
received and their acceptance. -/

namespace Sys2Proof.Machine

/-! ## Line rests (R6) -/

def allSendSlots : List (Fin 11) := [0, 1, 2, 3, 4, 5, 6, 7, 8, 9, 10]

/-- The frame of a WAITING slot. -/
def Slot.waitingFrame : Slot → Option Frame
  | .held .waiting f _ _ => some f
  | _ => none

def Slot.isSending : Slot → Bool
  | .held .sending .. => true
  | _ => false

/-- Of two slots the one chosen: the smaller class, then the smaller number; `best` has the smaller number (R6). -/
def better (best : Option (Fin 11 × Frame)) (x : Fin 11 × Frame) : Option (Fin 11 × Frame) :=
  match best with
  | none => some x
  | some b => if x.2.payload.lineClass < b.2.payload.lineClass then some x else some b

/-- The WAITING slot the Line Port chooses (R6). -/
def State.chosen (s : State) : Option (Fin 11 × Frame) :=
  allSendSlots.foldl (fun best i => match (s.slot i).waitingFrame with | some f => better best (i, f) | none => best) none

/-- The slot with an attempt under way. -/
def State.sendingSlot (s : State) : Option (Fin 11) := allSendSlots.find? fun i => (s.slot i).isSending

/-- A slot goes to SENDING (R6). -/
def Slot.begin : Slot → Slot
  | .held _ f u w => .held .sending f u w
  | .free => .free

/-- LINE_REST (R6). -/
def State.doLineRest (s : State) : State :=
  if s.silenced then s
  else if s.line.letPass then s.onLine fun l => { l with letPass := false }
  else if s.sendingSlot.isSome then s
  else
    match s.chosen with
    | none => s
    | some (i, f) => (s.setSlot i (s.slot i).begin).emit (.attempt f)

/-! ## Reports to owners -/

/-- An owner is told what became of its frame: CARRIED, or (not `carried`) UNHEARD or SILENCED. -/
def State.report (s : State) (f : Frame) (carried : Bool) : State :=
  match f.payload with
  | .authq _ l b _ => s.authqOutcome l b carried
  | .autha .. => s
  | .claim => s
  | .night _ => s
  | .note n => s.noteOutcome n.flag n.raised carried
  | .price _ => s
  | .shown .. => s.ownOutcome f carried
  | .hold .. => s.ownOutcome f carried
  | .beacon _ => s
  | .pull => if s.silenced then s.abandonPull else s.pullOutcome f.dest carried
  | .jpull _ => s.jpullOutcome f.dest carried
  | .jrel n => s.jrelOutcome f.dest n carried
  | .jseg g =>
    if carried then (match f.dest with | some n => s.jsegCarried n g | none => s)
    else if g.empty then s
    else s.stopSending
  | .chunk c => s.chunkOutcome c carried

/-- A kept frame ends SILENCED: it is placed and ended at once (R5, R13). -/
def State.silenceDraft (s : State) : Draft → State
  | .frame f => s.report f false
  | .note flag raised _ => s.noteOutcome flag raised false
  | .nextChunk => s.setServing none

/-! ## SILENCED and line restart (R13, R14) -/

/-- The frames of the WAITING slots, in slot order. -/
def State.waitingFrames (s : State) : List Frame := allSendSlots.filterMap fun i => (s.slot i).waitingFrame

/-- SFC has reached 256 (R13): LINE_SILENCED is raised, an exchange or a day drain is given up (R162, R176), every WAITING slot
and kept frame ends SILENCED, a pull is abandoned (R45), and the gateway is worked out again (R22). -/
def State.enterSilenced (s : State) : State :=
  let s1 := (s.raise .lineSilenced).nightSilenced
  let frames := s1.waitingFrames
  let drafts := s1.line.kept
  let s2 := s1.onLine fun l =>
    { l with slots := Vector.replicate 11 .free, kept := [], quietCount := 0, beaconKept := false }
  let s3 := frames.foldl (fun t f => t.report f false) s2
  let s4 := drafts.foldl State.silenceDraft s3
  s4.abandonPull.recalcGateway

/-- The line restart (R14). Its parts come in one order: the repair request (R42), the deferred list (R37), the NOTEs sent again
(R186), Start Control's test (R181), the gateway (R22) (DESIGN CHOICE, notes/assumptions/67.md). -/
def State.lineRestart (s : State) : State :=
  let s1 := (s.onLine fun l => { l with sfc := 0, hfc := 0, quietCount := 0 }).dropFlag .lineSilenced
  (s1.requestRepair.flushDeferred.resendNotes.checkReady.recalcGateway).settle

/-- QUIET_SPELL (R14). -/
def State.doQuietSpell (s : State) : State :=
  if !s.silenced then s
  else if s.line.quietCount + 1 < Config.quietSpells then s.onLine fun l => { l with quietCount := l.quietCount + 1 }
  else s.lineRestart

/-! ## The end of an attempt (R7, R8, R11) -/

/-- The outcomes of R7. -/
inductive Attempt where
  | lost | faulted | carried | unheard
  deriving DecidableEq, Repr

/-- The outcome of an attempt by what the station read (R7). -/
def attemptOutcome : AttemptEnd → Attempt
  | .lostClaim => .lost
  | .mismatch => .faulted
  | .sent ack mark => if mark then .faulted else if ack then .carried else .unheard

/-- While the alone flag is set, UNHEARD is treated as CARRIED (R10). -/
def excused (alone : Bool) : Attempt → Attempt
  | .unheard => if alone then .carried else .unheard
  | a => a

/-- The send fault count after an outcome (R11). -/
def sfcAfter (sfc : Nat) : Attempt → Nat
  | .lost => sfc
  | .carried => sfc - 1
  | _ => min (sfc + Config.sfcPenalty) Config.sfcLimit

/-- The slot after an outcome, and what its owner is told: `some true` CARRIED, `some false` UNHEARD (R8, R9). A frame with
the withdraw mark is not retried. -/
def slotAfter (f : Frame) (unheard : Nat) (withdrawn : Bool) : Attempt → Slot × Option Bool
  | .carried => (.free, if withdrawn then none else some true)
  | .unheard =>
    if withdrawn then (.free, none)
    else if unheard < 3 then (.held .waiting f (unheard + 1) false, none)
    else (.free, some false)
  | _ => if withdrawn then (.free, none) else (.held .waiting f unheard false, none)

/-- The counts and the standing after an attempt (R11, R12): a station left GUARDED lets the next line rest pass, one that
reaches 256 enters SILENCED. -/
def State.countAttempt (s : State) (a : Attempt) : State :=
  let s1 := s.onLine fun l => { l with sfc := sfcAfter l.sfc a }
  let s2 := if s1.line.standing = .guarded then s1.onLine fun l => { l with letPass := true } else s1
  if s2.silenced then s2.enterSilenced else s2

/-- The slot is dealt with by the outcome and its owner told (R8). -/
def State.endSlot (s : State) (i : Fin 11) (f : Frame) (u : Nat) (w : Bool) (a : Attempt) : State :=
  let x := slotAfter f u w a
  let s1 := s.setSlot i x.1
  let s2 := match x.2 with | some c => s1.report f c | none => s1
  (s2.refill f.payload.owner).keptBeacon

/-- ATTEMPT_END (R8). -/
def State.doAttemptEnd (how : AttemptEnd) (s : State) : State :=
  match s.sendingSlot with
  | none => s
  | some i =>
    match s.slot i with
    | .held .sending f u w =>
      let a := excused s.line.alone (attemptOutcome how)
      ((s.endSlot i f u w a).countAttempt a).settle
    | _ => s

/-! ## Frames received (R3, R15 to R17) -/

/-- A full inbox drops the frame (R17). -/
def State.inboxLost (s : State) : State := s.raise .inboxLost

def State.toItemInbox (s : State) (r : Received) : State :=
  if s.line.itemInbox.length < Config.itemDepth then s.onLine fun l => { l with itemInbox := l.itemInbox ++ [r] }
  else (s.onLine fun l => { l with repairAfterDrain := true }).inboxLost

def State.toJournalInbox (s : State) (r : Received) : State :=
  if s.line.journalInbox.length < Config.journalDepth then s.onLine fun l => { l with journalInbox := l.journalInbox ++ [r] }
  else s.inboxLost

def State.toNightInbox (s : State) (r : Received) : State :=
  if s.line.nightInbox.length < Config.nightDepth then s.onLine fun l => { l with nightInbox := l.nightInbox ++ [r] }
  else s.inboxLost

def State.toAuthInbox (s : State) (r : Received) : State :=
  if s.line.authInbox.length < Config.authDepth then s.onLine fun l => { l with authInbox := l.authInbox ++ [r] }
  else s.inboxLost

/-- A frame that passed the sender and destination tests meets the condition of its kind and is delivered (Table 1-3). `here`
says that it is addressed to this station alone. A NOTE's class is its flag's, whatever its claim word or class bit says
(notes/assumptions/23.md). -/
def State.deliver (s : State) (n : Station) (here : Bool) (p : Payload) : State :=
  match p with
  | .authq .. => if here && s.holdsRole then s.toAuthInbox ⟨n, p⟩ else s
  | .autha .. => if here then s.toAuthInbox ⟨n, p⟩ else s
  | .claim => s.toNightInbox ⟨n, p⟩
  | .night _ => s.toNightInbox ⟨n, p⟩
  | .note x => if x.flag.classA && s.holdsRole then s.forwardNote n x.flag x.raised else s
  | .price _ => s.toItemInbox ⟨n, p⟩
  | .shown .. => s.toItemInbox ⟨n, p⟩
  | .hold .. => s.toItemInbox ⟨n, p⟩
  | .chunk _ => if here then s.toItemInbox ⟨n, p⟩ else s
  | .beacon b => s.beaconHeard n b
  | .pull => if here then s.servePull n else s
  | .jpull _ => if here then s.toJournalInbox ⟨n, p⟩ else s
  | .jrel _ => if here then s.toJournalInbox ⟨n, p⟩ else s
  | .jseg g => if here && s.pullOutstanding n then (s.collect n g).settle else s

/-- A complete good frame as its sender, destination and contents; none where its kind, length or a code in it is not one of
chapter 11's (R2, R188). -/
def readFrame (claim : BitVec 6) (bytes : List Byte) : Option (Station × Option Station × Payload) :=
  match destOf (byteAt bytes 1), Payload.ofBytes (byteAt bytes 0).toNat ((bytes.drop 3).take (byteAt bytes 2).toNat) with
  | some d, some p => some (claimStation claim, d, p)
  | _, _ => none

/-- The acceptance test (R15). -/
def State.accept (s : State) (claim : BitVec 6) (bytes : List Byte) : State :=
  match readFrame claim bytes with
  | none => s
  | some (n, d, p) =>
    if n = s.self then s
    else
      match d with
      | none => s.deliver n false p
      | some t => if t = s.self then s.deliver n true p else s

/-- The hear fault count after a receive (R11); while SILENCED it does not change. -/
def State.countReceive (s : State) (good : Bool) : State :=
  if s.silenced then s
  else s.onLine fun l => { l with hfc := if good then l.hfc - 1 else min (l.hfc + 1) Config.hfcLimit }

/-- What the station drives in the two windows (R3): the acknowledgement of a good receive unless SILENCED, the fault mark of a
bad one in FULL standing. -/
def State.windows (s : State) (good : Bool) : State :=
  if good then (if s.silenced then s else s.emit .acknowledge)
  else if s.line.standing = .full then s.emit .faultMark
  else s

/-- FRAME_RECEIVE (R3). -/
def State.doFrameReceive (claim : BitVec 6) (bytes : List Byte) (marked : Bool) (s : State) : State :=
  let good := goodReceive claim bytes
  let s1 := (s.windows good).countReceive good
  if good && !marked then s1.accept claim bytes else s1

end Sys2Proof.Machine
end

