-- ==== Sys2Proof/Machine/LineCommands.lean ====
section
/-! DEFINITION. The commands of the Line Port and the Roster (chapter 1). -/

namespace Sys2Proof.Machine

/-- LINE_REST (R6). -/
def execLineRest (s : State) : Result := run State.doLineRest s

/-- ATTEMPT_END (R8). -/
def execAttemptEnd (how : AttemptEnd) (s : State) : Result := run (State.doAttemptEnd how) s

/-- FRAME_RECEIVE (R3). -/
def execFrameReceive (claim : BitVec 6) (bytes : List Byte) (marked : Bool) (s : State) : Result :=
  run (State.doFrameReceive claim bytes marked) s

/-- QUIET_SPELL (R14). -/
def execQuietSpell (s : State) : Result := run State.doQuietSpell s

/-- BEACON_DUE (R19). -/
def execBeaconDue (s : State) : Result := run State.doBeaconDue s

/-- ENTRY_QUIET (R20). -/
def execEntryQuiet (peer : Station) (s : State) : Result := run (State.doEntryQuiet peer) s

/-- ENTRY_ABSENT (R20). -/
def execEntryAbsent (peer : Station) (s : State) : Result := run (State.doEntryAbsent peer) s

end Sys2Proof.Machine
end

