-- ==== Sys2Proof/Machine/Uplink.lean ====
section
/-! DEFINITION. The carrier link (R124, R141) and what head office sends (R126). -/

namespace Sys2Proof.Machine

/-- A frame from the carrier unit, on a station with the uplink fitted (R124). -/
def State.fromCarrier (s : State) (f : State → State) : State :=
  if s.start.straps.uplink then f (s.onRouter fun r => { r with carrierHeard := some s.now }) else s

/-- The carrier link goes DOWN (R141). -/
def State.linkDown (s : State) : State :=
  let s1 := (s.onRouter fun r => { r with linkUp := false, linkFree := true }).declineQueued
  let s2 := (s1.removeFlows fun _ => true).onRouter fun r =>
    { r with
      guestQueue := [], guestDeficit := 0
      guestDropped := min (r.guestDropped + r.guestQueue.length) Config.countLimit }
  s2.batchLinkLost.rosterRecalc.settle

/-- The carrier link comes UP (R124, R141, R163, R172). -/
def State.linkRise (s : State) : State :=
  (s.onRouter fun r => { r with linkUp := true }).rosterRecalc.nightLinkUp.settle

/-- LINK (R124). -/
def State.doLink (up : Bool) (s : State) : State :=
  s.fromCarrier fun t =>
    if up && !t.router.linkUp then t.linkRise
    else if !up && t.router.linkUp then t.linkDown
    else t

/-- CARRIER_PRESENCE_LOST (R124): 3 s with no frame from the carrier unit. -/
def State.doPresenceLost (s : State) : State :=
  match s.router.carrierHeard with
  | none => s
  | some t =>
    if t + Config.presenceLife ≤ s.now then
      let s1 := s.onRouter fun r => { r with carrierHeard := none }
      if s1.router.linkUp then s1.linkDown else s1
    else s

/-- CARRIER_FREE (R131). -/
def State.doCarrierFree (s : State) : State :=
  if s.start.straps.uplink then (s.onRouter fun r => { r with linkFree := true }).settle else s

/-- One more malformed message (R143). -/
def State.countMalformed (s : State) : State := s.onRouter fun r => { r with malformed := bump r.malformed }

/-- UPLINK_MALFORMED (R126, R190): counted; it is a frame from the carrier unit all the same (R124,
notes/assumptions/17.md). -/
def State.doMalformed (s : State) : State :=
  s.fromCarrier State.countMalformed

/-- OFFICE_AUTH_ANS (R135). -/
def State.doOfficeAns (tag : Nat) (d : OfficeDecision) (s : State) : State :=
  s.fromCarrier fun t => (t.officeAnswer tag d).settle

/-- GUEST_PACKET_IN (R140). -/
def State.doPacketIn (port : Nat) (data : List Byte) (s : State) : State := s.fromCarrier fun t => t.packetIn port data

/-- JTAKEN (R166). -/
def State.doJtaken (station seq : Nat) (s : State) : State := s.fromCarrier fun t => (t.jtaken station seq).settle

/-- A BATCH_REC in PRICES (R27, R167): the set is applied, its PRICE frame placed, and the stall wait started again. -/
def State.batchRecTaken (s : State) (p : PriceSet) : State :=
  if s.night.state = .exchanging && s.night.stage = some .prices then
    ((s.applySet p).place (.frame { dest := none, payload := .price p, applied := false })).onNight fun n =>
      if n.pricesEnding.isNone then { n with stallUntil := some (s.now + Config.stallWait) } else n
  else s

/-- BATCH_REC (R167). -/
def State.doBatchRec (p : PriceSet) (s : State) : State := s.fromCarrier fun t => (t.batchRecTaken p).settle

/-- A BATCH_END in PRICES (R167): complete, asked once more, or incomplete. -/
def State.batchEndTaken (s : State) (l : Nat) : State :=
  if s.night.state = .exchanging && s.night.stage = some .prices then
    let s1 := s.onNight fun n => { n with newest := some l, stallUntil := none }
    if s1.night.pricesEnding.isSome then s1
    else if l ≤ s1.items.applied then s1.settlePrices true
    else if s1.night.askedAgain then s1.settlePrices false
    else s1.onNight fun n => { n with askedAgain := true, waiting := n.waiting ++ [.batchReq s1.items.applied] }
  else s

/-- BATCH_END (R167). -/
def State.doBatchEnd (l : Nat) (s : State) : State := s.fromCarrier fun t => (t.batchEndTaken l).settle

/-- STALL_WAIT_EXPIRY (R167). -/
def State.stallExpiry (s : State) : State :=
  match s.night.stallUntil with
  | none => s
  | some t => if t ≤ s.now then s.settlePrices false else s

/-- OFFICE_TIME (R168). -/
def State.doOfficeTime (day second : Nat) (s : State) : State := s.fromCarrier fun t => (t.officeTime day second).settle

end Sys2Proof.Machine
end

