-- ==== Sys2Proof/Machine/NightCommands.lean ====
section
/-! DEFINITION. The commands of the Night Exchange and the Clock (chapters 9 and 10). -/

namespace Sys2Proof.Machine

/-- DAY_ROLL (R182). -/
def execDayRoll (s : State) : Result := run State.doDayRoll s

/-- WINDOW_OPEN_TIME (R160). -/
def execWindowOpenTime (s : State) : Result := run State.doWindowOpen s

/-- DEADLINE_1 (R170). -/
def execDeadline1 (s : State) : Result := run State.doDeadline1 s

/-- DEADLINE_2 (R170). -/
def execDeadline2 (s : State) : Result := run State.doDeadline2 s

/-- OPEN_HOURS_EDGE (R144). -/
def execOpenHoursEdge (s : State) : Result := run State.doHoursEdge s

/-- The head of the Night inbox, where it is a CLAIM (R161, R162). -/
def State.doTakeClaim (s : State) : State :=
  match s.line.nightInbox with
  | { sender := n, payload := .claim } :: _ => (s.popNight.claimTaken n).settle
  | _ => s

/-- TAKE_CLAIM (R161). -/
def execTakeClaim (s : State) : Result := run State.doTakeClaim s

/-- The head of the Night inbox, where it is a NIGHT(HELD) (R171). -/
def State.doNightHeld (s : State) : State :=
  match s.line.nightInbox with
  | { sender := n, payload := .night .held } :: _ => (s.popNight.heldTaken n).settle
  | _ => s

/-- NIGHT_HELD (R171). -/
def execNightHeld (s : State) : Result := run State.doNightHeld s

/-- The head of the Night inbox, where it is a NIGHT(PRICES_DONE) (R171). -/
def State.doNightDone (s : State) : State :=
  match s.line.nightInbox with
  | { sender := n, payload := .night (.pricesDone l) } :: _ => (s.popNight.doneTaken n l).settle
  | _ => s

/-- NIGHT_PRICES_DONE (R171). -/
def execNightPricesDone (s : State) : Result := run State.doNightDone s

/-- The head of the Night inbox, where it is a NIGHT(TIME) (R171). -/
def State.doNightTime (s : State) : State :=
  match s.line.nightInbox with
  | { sender := n, payload := .night (.time day second) } :: _ => (s.popNight.timeTaken n day second).settle
  | _ => s

/-- NIGHT_TIME (R171). -/
def execNightTime (s : State) : Result := run State.doNightTime s

/-- The head of the Night inbox, where it is a NIGHT(CLOSED) (R173). -/
def State.doNightClosed (s : State) : State :=
  match s.line.nightInbox with
  | { sender := n, payload := .night (.closed r) } :: _ => (s.popNight.closedFrom n r).settle
  | _ => s

/-- NIGHT_CLOSED (R173). -/
def execNightClosed (s : State) : Result := run State.doNightClosed s

/-- CLAIM_WAIT_EXPIRY (R161). -/
def execClaimWaitExpiry (s : State) : Result := run (fun t => t.claimExpiry.settle) s

/-- SEGMENT_WAIT_EXPIRY (R165). -/
def execSegmentWaitExpiry (s : State) : Result := run (fun t => t.segmentExpiry.settle) s

/-- JTAKEN (R166). -/
def execJtaken (station seq : Nat) (s : State) : Result := run (State.doJtaken station seq) s

/-- TAKEN_WAIT_EXPIRY (R166). -/
def execTakenWaitExpiry (s : State) : Result := run (fun t => t.takenExpiry.settle) s

/-- BATCH_REC (R167). -/
def execBatchRec (set : PriceSet) (s : State) : Result := run (State.doBatchRec set) s

/-- BATCH_END (R167). -/
def execBatchEnd (newest : Nat) (s : State) : Result := run (State.doBatchEnd newest) s

/-- STALL_WAIT_EXPIRY (R167). -/
def execStallWaitExpiry (s : State) : Result := run (fun t => t.stallExpiry.settle) s

/-- OFFICE_TIME (R168). -/
def execOfficeTime (day second : Nat) (s : State) : Result := run (State.doOfficeTime day second) s

/-- TIME_WAIT_EXPIRY (R168). -/
def execTimeWaitExpiry (s : State) : Result := run (fun t => t.timeExpiry.settle) s

/-- The rest-until time has passed (R175). -/
def State.doRestEnd (s : State) : State :=
  match s.night.restUntil with
  | some t => if t ≤ s.now then (s.onNight fun n => { n with restUntil := none }).settle else s
  | none => s

/-- DAY_DRAIN_REST_END (R175). -/
def execDayDrainRestEnd (s : State) : Result := run State.doRestEnd s

end Sys2Proof.Machine
end

