-- ==== Sys2Proof/Machine/Start.lean ====
section
/-! DEFINITION. Start Control (sections 10.1 to 10.3), power loss, and the CLEAR request (R187). -/

namespace Sys2Proof.Machine

/-! ## Starts (R177, R178) -/

/-- The straps as read: a lane count above 4 is read as 4 (R177). -/
def readStraps (pins : Straps) : Straps := { pins with lanes := min pins.lanes 4 }

/-- A kept label over a warm start (R123). -/
def Label.restart (l : Label) : Label :=
  match l.state with
  | .awaiting => { l with state := .queued, notBefore := none }
  | .retryWait => { l with state := .queued, notBefore := none }
  | _ => l

/-- The label table over a warm start; it is emptied where no label radio is fitted (R105, R123). -/
def restartLabels (radio : Bool) (ls : List Label) : List Label := if radio then ls.map Label.restart else []

/-- A set marker becomes a LOST_BY_RESTART note, which clears it in its commit (R104). -/
def State.lostNote (s : State) (l : Lane) : State :=
  match s.held.markers[l.val] with
  | none => s
  | some basket =>
    (s.onHeld fun h => { h with markers := h.markers.set l.val none }).writeNote (.lostByRestart s.self l basket s.stamp)

/-- Held memory put in order at a warm start: records revert, labels restart (R104, R123). The basket number of a lane that
the straps now make absent is kept (DESIGN CHOICE, notes/assumptions/58.md). -/
def warmHeld (pins : Straps) (h : HeldMemory) : HeldMemory :=
  { h.revert with labels := restartLabels pins.labelRadio h.labels }

/-- A warm start (R104, R123, R178). -/
def State.warmStart (s : State) (pins : Straps) : State :=
  let h := warmHeld pins s.held
  let s1 : State := { State.fresh (readStraps pins) h with pending := s.pending }
  let s2 := s1.onLabels fun u => { u with queue := (h.labels.filter fun l => l.state == .queued).map (·.index) }
  (allLanes.foldl State.lostNote s2).testJournal.recalcPressure

/-- A cold start (R104, R178): every held part is at its initial value and HELD_LOST is raised. -/
def State.coldStart (s : State) (pins : Straps) : State :=
  let s1 : State := { State.fresh (readStraps pins) .empty with pending := s.pending }
  (s1.raise .heldLost).testJournal

/-- A start by the held-memory check (R178): `kept` says that it passes. -/
def State.starts (s : State) (pins : Straps) (kept : Bool) : State := if kept then s.warmStart pins else s.coldStart pins

/-- POWER_ON (R178). -/
def State.doPowerOn (pins : Straps) (kept : Bool) (s : State) : State := s.starts pins kept

/-- RESET_PIN (R178). -/
def State.doResetPin (pins : Straps) (kept : Bool) (s : State) : State := s.starts pins kept

/-- POWER_LOSS (R91, R178): held memory stays as its last commit left it; everything volatile is gone. -/
def State.doPowerLoss (s : State) : State :=
  { State.fresh s.start.straps s.held with pending := s.pending }.onStart fun c => { c with powered := false }

/-! ## The profile, LISTEN, PULL (R179 to R181) -/

/-- LISTEN is entered (R180): the first beacon, and the 2 s listen wait. -/
def State.enterListen (s : State) : State :=
  ((s.onStart fun c => { c with phase := .listen, listenUntil := some (s.now + Config.listenWait) }).onLine fun l =>
    { l with nextBeacon := some (s.now + Config.beaconPeriod) }).putBeacon

/-- PROFILE_READ_DONE (R179, R191): the profile as read, or the fixed values and PROFILE_BAD. The late-window test of a Clock that
became valid before is not made again (DESIGN CHOICE, notes/assumptions/80.md). -/
def State.doProfileRead (bytes : Option (List Byte)) (s : State) : State :=
  if s.start.phase ≠ .profile then s
  else
    match bytes.bind Profile.ofBytes with
    | some p => (s.onStart fun c => { c with profile := p, profileBad := false }).enterListen
    | none => ((s.onStart fun c => { c with profile := .fixed, profileBad := true }).raise .profileBad).enterListen

/-- Some PRESENT peer's last beacon shows an applied-through version above 0 (R180). -/
def State.tableOffered (s : State) : Bool :=
  allStations.any fun n =>
    match s.entry n with
    | some e => e.presence == .present && 0 < e.beacon.applied
    | none => false

/-- LISTEN_WAIT_EXPIRY (R180, R181). -/
def State.doListenExpiry (s : State) : State :=
  match s.start.listenUntil with
  | none => s
  | some t =>
    if s.start.phase ≠ .listen || s.now < t then s
    else
      let s1 := s.onStart fun c => { c with listenUntil := none }
      if s1.tableOffered then (s1.onStart fun c => { c with phase := .pull }).requestRepair.checkReady
      else s1.enterReady

/-! ## CLEAR (R187) -/

/-- The flags set, by code. -/
def State.flagsSet (s : State) : List FaultFlag := allFlags.filter s.flagSet

/-- Every flag, first-raised time, unsent mark, dropped-note hold and range touched flag is cleared. -/
def State.clearFaults (s : State) : State :=
  (s.onFaults fun _ =>
    { flags := Vector.replicate 11 { raised := none, unsent := none }, journalHold := false }).onGuest fun g =>
    { g with touched := Vector.replicate 8 false }

/-- The level sources whose condition still holds raise again. -/
def State.raiseLevels (s : State) : State :=
  let s1 := if s.start.profileBad then s.raise .profileBad else s
  let s2 := if s1.silenced then s1.raise .lineSilenced else s1
  if s2.journalFull then s2.raise .journalFull else s2

def State.clearWork (r : Request) (s : State) : State :=
  let s1 := s.clearFaults.raiseLevels
  s1.answer r.lane r.number .ok (.flags s.flagsSet s1.flagsSet)

/-- CLEAR (R187), protected with kind code 24. -/
def State.doClear (r : Request) (s : State) : State := s.request r (serviceForm (some 24)) (State.clearWork r)

end Sys2Proof.Machine
end

