-- ==== Sys2Proof/Machine/StartCommands.lean ====
section
/-! DEFINITION. The commands of Start Control and the Fault Record (chapter 10). -/

namespace Sys2Proof.Machine

/-- CLEAR (R187). -/
def execClear (r : Request) (s : State) : Result := run (State.doClear r) s

/-- POWER_ON (R178). It acts with the power off before it. -/
def execPowerOn (pins : Straps) (heldKept : Bool) (s : State) : Result := .next (s.doPowerOn pins heldKept)

/-- RESET_PIN (R178). -/
def execResetPin (pins : Straps) (heldKept : Bool) (s : State) : Result := run (State.doResetPin pins heldKept) s

/-- PROFILE_READ_DONE (R180). -/
def execProfileReadDone (bytes : Option (List Byte)) (s : State) : Result := run (State.doProfileRead bytes) s

/-- LISTEN_WAIT_EXPIRY (R180). -/
def execListenWaitExpiry (s : State) : Result := run State.doListenExpiry s

/-- POWER_LOSS (R91). -/
def execPowerLoss (s : State) : Result := run State.doPowerLoss s

end Sys2Proof.Machine
end

