-- ==== Sys2Proof/Machine/UplinkCommands.lean ====
section
/-! DEFINITION. The commands of the Uplink Router (chapter 7). -/

namespace Sys2Proof.Machine

/-- LINK (R124). -/
def execLink (up : Bool) (s : State) : Result := run (State.doLink up) s

/-- CARRIER_PRESENCE_LOST (R124). -/
def execCarrierPresenceLost (s : State) : Result := run State.doPresenceLost s

/-- CARRIER_FREE (R131). -/
def execCarrierFree (s : State) : Result := run State.doCarrierFree s

/-- UPLINK_MALFORMED (R126). -/
def execUplinkMalformed (s : State) : Result := run State.doMalformed s

/-- TAKE_AUTHQ (R134). -/
def execTakeAuthq (s : State) : Result := run (fun t => t.doTakeAuthq.settle) s

/-- OFFICE_AUTH_ANS (R135). -/
def execOfficeAuthAns (tag : Nat) (decision : OfficeDecision) (s : State) : Result := run (State.doOfficeAns tag decision) s

/-- AUTH_ENTRY_EXPIRY (R136). -/
def execAuthEntryExpiry (tag : Nat) (s : State) : Result := run (State.doAuthEntryExpiry tag) s

/-- FLOW_IDLE_EXPIRY (R138). -/
def execFlowIdleExpiry (index : Nat) (s : State) : Result := run (State.doFlowIdle index) s

/-- GUEST_PACKET_IN (R140). -/
def execGuestPacketIn (port : Nat) (data : List Byte) (s : State) : Result := run (State.doPacketIn port data) s

end Sys2Proof.Machine
end

