-- ==== Sys2Proof/Machine/Dispatch.lean ====
section
/-! DEFINITION. The dispatch: one arm per command of spec/opcode_table.json, in the table's order. -/

namespace Sys2Proof.Machine

/-- The command's effect on everything but the queue of waiting commands. -/
def exec (i : Instr) (s : State) : Host.Outcome State Fault Refusal :=
  match i with
  | .lineRest => Sys2Proof.Machine.execLineRest s
  | .attemptEnd how => Sys2Proof.Machine.execAttemptEnd how s
  | .frameReceive claim bytes marked => Sys2Proof.Machine.execFrameReceive claim bytes marked s
  | .quietSpell => Sys2Proof.Machine.execQuietSpell s
  | .beaconDue => Sys2Proof.Machine.execBeaconDue s
  | .entryQuiet peer => Sys2Proof.Machine.execEntryQuiet peer s
  | .entryAbsent peer => Sys2Proof.Machine.execEntryAbsent peer s
  | .takePrice => Sys2Proof.Machine.execTakePrice s
  | .takeShown => Sys2Proof.Machine.execTakeShown s
  | .takeHold => Sys2Proof.Machine.execTakeHold s
  | .watchExpiry => Sys2Proof.Machine.execWatchExpiry s
  | .takeChunk => Sys2Proof.Machine.execTakeChunk s
  | .pullTimerExpiry => Sys2Proof.Machine.execPullTimerExpiry s
  | .laneFrameBad lane => Sys2Proof.Machine.execLaneFrameBad lane s
  | .openBasket r => Sys2Proof.Machine.execOpen r s
  | .scan r item count => Sys2Proof.Machine.execScan r item count s
  | .weigh r item grams => Sys2Proof.Machine.execWeigh r item grams s
  | .voidLine r line => Sys2Proof.Machine.execVoid r line s
  | .ask r item => Sys2Proof.Machine.execAsk r item s
  | .total r => Sys2Proof.Machine.execTotal r s
  | .resume r => Sys2Proof.Machine.execResume r s
  | .cash r amount => Sys2Proof.Machine.execCash r amount s
  | .card r amount => Sys2Proof.Machine.execCard r amount s
  | .cancel r => Sys2Proof.Machine.execCancel r s
  | .close r => Sys2Proof.Machine.execClose r s
  | .authTimerExpiry lane => Sys2Proof.Machine.execAuthTimerExpiry lane s
  | .takeAutha => Sys2Proof.Machine.execTakeAutha s
  | .lateEntryExpiry lane => Sys2Proof.Machine.execLateEntryExpiry lane s
  | .laneReset lane => Sys2Proof.Machine.execLaneReset lane s
  | .takeJpull => Sys2Proof.Machine.execTakeJpull s
  | .takeJrel => Sys2Proof.Machine.execTakeJrel s
  | .labelAck radioId battery => Sys2Proof.Machine.execLabelAck radioId battery s
  | .updateTimeout => Sys2Proof.Machine.execUpdateTimeout s
  | .notBeforeExpiry index => Sys2Proof.Machine.execNotBeforeExpiry index s
  | .bind r radioId item => Sys2Proof.Machine.execBind r radioId item s
  | .unbind r radioId => Sys2Proof.Machine.execUnbind r radioId s
  | .release r item => Sys2Proof.Machine.execRelease r item s
  | .label r radioId => Sys2Proof.Machine.execLabel r radioId s
  | .clear r => Sys2Proof.Machine.execClear r s
  | .link up => Sys2Proof.Machine.execLink up s
  | .carrierPresenceLost => Sys2Proof.Machine.execCarrierPresenceLost s
  | .carrierFree => Sys2Proof.Machine.execCarrierFree s
  | .uplinkMalformed => Sys2Proof.Machine.execUplinkMalformed s
  | .takeAuthq => Sys2Proof.Machine.execTakeAuthq s
  | .officeAuthAns tag decision => Sys2Proof.Machine.execOfficeAuthAns tag decision s
  | .authEntryExpiry tag => Sys2Proof.Machine.execAuthEntryExpiry tag s
  | .flowIdleExpiry index => Sys2Proof.Machine.execFlowIdleExpiry index s
  | .guestPacketIn port data => Sys2Proof.Machine.execGuestPacketIn port data s
  | .assoc address => Sys2Proof.Machine.execAssoc address s
  | .disassoc address => Sys2Proof.Machine.execDisassoc address s
  | .guestPacketOut packet => Sys2Proof.Machine.execGuestPacketOut packet s
  | .apReset => Sys2Proof.Machine.execApReset s
  | .status => Sys2Proof.Machine.execStatus s
  | .guestFrameBad => Sys2Proof.Machine.execGuestFrameBad s
  | .apLinkLost => Sys2Proof.Machine.execApLinkLost s
  | .bucketRefill => Sys2Proof.Machine.execBucketRefill s
  | .sessionEnd slot => Sys2Proof.Machine.execSessionEnd slot s
  | .dayRoll => Sys2Proof.Machine.execDayRoll s
  | .windowOpenTime => Sys2Proof.Machine.execWindowOpenTime s
  | .deadline1 => Sys2Proof.Machine.execDeadline1 s
  | .deadline2 => Sys2Proof.Machine.execDeadline2 s
  | .openHoursEdge => Sys2Proof.Machine.execOpenHoursEdge s
  | .takeClaim => Sys2Proof.Machine.execTakeClaim s
  | .nightHeld => Sys2Proof.Machine.execNightHeld s
  | .nightPricesDone => Sys2Proof.Machine.execNightPricesDone s
  | .nightTime => Sys2Proof.Machine.execNightTime s
  | .nightClosed => Sys2Proof.Machine.execNightClosed s
  | .claimWaitExpiry => Sys2Proof.Machine.execClaimWaitExpiry s
  | .segmentWaitExpiry => Sys2Proof.Machine.execSegmentWaitExpiry s
  | .jtaken station seq => Sys2Proof.Machine.execJtaken station seq s
  | .takenWaitExpiry => Sys2Proof.Machine.execTakenWaitExpiry s
  | .batchRec set => Sys2Proof.Machine.execBatchRec set s
  | .batchEnd newest => Sys2Proof.Machine.execBatchEnd newest s
  | .stallWaitExpiry => Sys2Proof.Machine.execStallWaitExpiry s
  | .officeTime day second => Sys2Proof.Machine.execOfficeTime day second s
  | .timeWaitExpiry => Sys2Proof.Machine.execTimeWaitExpiry s
  | .dayDrainRestEnd => Sys2Proof.Machine.execDayDrainRestEnd s
  | .powerOn pins heldKept => Sys2Proof.Machine.execPowerOn pins heldKept s
  | .resetPin pins heldKept => Sys2Proof.Machine.execResetPin pins heldKept s
  | .profileReadDone bytes => Sys2Proof.Machine.execProfileReadDone bytes s
  | .listenWaitExpiry => Sys2Proof.Machine.execListenWaitExpiry s
  | .unknownRequest lane number => Sys2Proof.Machine.execUnknownRequest lane number s
  | .laneAnswerSent lane => Sys2Proof.Machine.execLaneAnswerSent lane s
  | .laneBreakEnd lane => Sys2Proof.Machine.execLaneBreakEnd lane s
  | .powerLoss => Sys2Proof.Machine.execPowerLoss s

end Sys2Proof.Machine
end

