-- ==== Sys2Proof/Machine/Tick.lean ====
section
/-! DEFINITION. One millisecond of running time (R182): what `step` does with no command waiting, and the commands that fall due
by it. The manual gives the durations and leaves their order open (DESIGN CHOICE, notes/assumptions/5.md). -/

namespace Sys2Proof.Machine

/-- A wait that ends at a time has run out. -/
def State.due (s : State) (t : Option Nat) : Bool :=
  match t with
  | some d => d ≤ s.now
  | none => false

/-- A command, where a test holds. -/
def whenDue (b : Bool) (c : Instr) : List Instr := if b then [c] else []

/-- The next running time, a 48-bit count (R182); after the highest it begins again at 0 (DESIGN CHOICE,
notes/assumptions/10.md). -/
def Clock.nextNow (c : Clock) : Nat := (c.now + 1) % Config.runningTimes

/-- Running time moves on by 1 ms, and a valid Clock with it (R182); at 86,399 the next second waits for DAY_ROLL. -/
def Clock.advance (c : Clock) : Clock :=
  if !c.valid then { c with now := c.nextNow }
  else if c.sub + 1 < 1000 then { c with now := c.nextNow, sub := c.sub + 1 }
  else if c.second + 1 < Config.daySeconds then { c with now := c.nextNow, sub := 0, second := c.second + 1 }
  else { c with now := c.nextNow, sub := 1000 }

/-- A day roll is due. -/
def Clock.rollDue (c : Clock) : Bool := c.valid && c.second == Config.daySeconds - 1 && 1000 ≤ c.sub

/-- A time of interest has just been reached, or will be by the day roll that is due (R182). -/
def State.justReached (s : State) (e : TimeEvent) : Bool :=
  if s.clock.rollDue then s.timeOf e == 0
  else s.clock.valid && s.clock.sub == 0 && s.clock.second == s.timeOf e

/-- The times of day that fall due. -/
def State.timesDue (s : State) : List Instr :=
  whenDue s.clock.rollDue .dayRoll ++ whenDue (s.justReached .w0) .windowOpenTime ++ whenDue (s.justReached .d1) .deadline1 ++
    whenDue (s.justReached .d2) .deadline2 ++
    whenDue (s.justReached .openEdge || s.justReached .closeEdge) .openHoursEdge

/-- The waits of the Roster and the Line Port that have run out (R19, R20). -/
def State.rosterDue (s : State) : List Instr :=
  (allStations.map fun n =>
    match s.entry n with
    | some e =>
      whenDue (e.presence = .present && e.lastHeard + Config.quietAfter ≤ s.now) (.entryQuiet n) ++
        whenDue (e.presence = .quiet && e.lastHeard + Config.absentAfter ≤ s.now) (.entryAbsent n)
    | none => []).flatten ++
    whenDue (s.due s.line.nextBeacon) .beaconDue

/-- The waits of the Item Table and the labels (R39, R47, R112, R113). -/
def State.itemsDue (s : State) : List Instr :=
  (s.items.watch.filter fun w => w.deadline ≤ s.now).map (fun _ => .watchExpiry) ++
    whenDue (s.due (s.items.pull.bind (·.deadline))) .pullTimerExpiry ++
    whenDue (s.due (s.labels.exchange.map (·.deadline))) .updateTimeout ++
    (s.held.labels.filter fun l => l.state == .retryWait && s.due l.notBefore).map fun l => .notBeforeExpiry l.index

/-- The waits of a lane (R84, R86). -/
def State.laneDue (s : State) (l : Lane) : List Instr :=
  whenDue (s.due ((s.lane l).auth.map fun e => e.start + Config.authWait)) (.authTimerExpiry l) ++
    ((s.lane l).late.filter fun e => e.joined + Config.lateLife ≤ s.now).map fun _ => .lateEntryExpiry l

/-- The waits of the Uplink Router and the Guest Unit (R124, R136, R138, R150, R153, R154). -/
def State.uplinkDue (s : State) : List Instr :=
  whenDue (s.due (s.router.carrierHeard.map (· + Config.presenceLife))) .carrierPresenceLost ++
    (s.router.authFlows.filter fun f => f.made + Config.authEntryLife ≤ s.now).map (fun f => .authEntryExpiry f.tag) ++
    (s.router.guestFlows.filter fun f => f.lastUsed + Config.flowLife ≤ s.now).map (fun f => .flowIdleExpiry f.index) ++
    whenDue (s.due (s.guest.apHeard.map (· + Config.presenceLife))) .apLinkLost ++
    whenDue (s.guest.refillAt ≤ s.now) .bucketRefill ++
    (allSlots.filter fun i => (s.guestAt i).joined && s.due (s.guestAt i).sessionEnd).map .sessionEnd

/-- The waits of a batch (R165, R166). -/
def State.batchDue (s : State) : List Instr :=
  match s.night.batch with
  | none => []
  | some b =>
    match b.phase with
    | .collecting d => whenDue (d ≤ s.now) .segmentWaitExpiry
    | .awaiting d => whenDue (d ≤ s.now) .takenWaitExpiry
    | _ => []

/-- The waits of the Night Exchange and Start Control (R161, R165 to R168, R175, R180). -/
def State.nightDue (s : State) : List Instr :=
  whenDue (s.due s.night.claimUntil) .claimWaitExpiry ++ s.batchDue ++ whenDue (s.due s.night.stallUntil) .stallWaitExpiry ++
    whenDue (s.due s.night.timeUntil) .timeWaitExpiry ++ whenDue (s.due s.night.restUntil) .dayDrainRestEnd ++
    whenDue (s.due s.start.listenUntil) .listenWaitExpiry

/-- The command by which its block takes a frame from an inbox (R16). -/
def takeCommand (r : Received) : Option Instr :=
  match r.payload with
  | .price _ => some .takePrice
  | .shown .. => some .takeShown
  | .hold .. => some .takeHold
  | .chunk _ => some .takeChunk
  | .jpull _ => some .takeJpull
  | .jrel _ => some .takeJrel
  | .claim => some .takeClaim
  | .night .held => some .nightHeld
  | .night (.pricesDone _) => some .nightPricesDone
  | .night (.time ..) => some .nightTime
  | .night (.closed _) => some .nightClosed
  | .autha .. => some .takeAutha
  | .authq .. => some .takeAuthq
  | _ => none

/-- The blocks take what stands in their inboxes, each from its head (R16). -/
def State.inboxDue (s : State) : List Instr :=
  (s.line.itemInbox ++ s.line.journalInbox ++ s.line.nightInbox ++ s.line.authInbox).filterMap takeCommand

/-- One millisecond: the clocks move on, and the commands it makes due join the empty queue. -/
def State.tick (s : State) : State :=
  let s1 := s.onClock Clock.advance
  { s1 with
    out := []
    pending := s1.timesDue ++ s1.rosterDue ++ s1.itemsDue ++ (allLanes.map s1.laneDue).flatten ++ s1.uplinkDue ++
      s1.nightDue ++ s1.inboxDue }

/-- With no command waiting a station with power lives through one millisecond; one without power does nothing. -/
def State.idle (s : State) : State := if s.start.powered then s.tick else s

end Sys2Proof.Machine
end

