-- ==== Sys2Proof/WellFormed.lean ====
section
/-! DEFINITION. Which commands a port can carry: every operand within the range its field has on the wire
(chapter 11). `exec` is total and does not need it; invariants that speak of ranges do. -/

namespace Sys2Proof

/-- A request head: one byte each for the request number and the confirmation (section 11.4). -/
def Request.wf (r : Request) : Bool := r.number < 256 && r.confirm < 256

/-- A price state fits its nine bytes (Table 11-4); a count of 0 stands for no multibuy. -/
def PriceState.wf (p : PriceState) : Bool :=
  p.price < 2 ^ 24 && p.markdown < 2 ^ 16 &&
    match p.multibuy with
    | none => true
    | some m => 0 < m.count && m.count < 256 && m.group < 2 ^ 24

/-- A price set fits the PRICE payload (Table 11-3). -/
def PriceSet.wf (p : PriceSet) : Bool :=
  p.version < 2 ^ 32 && p.code < 2 ^ 32 &&
    match p.body with
    | none => true
    | some b => b.wf

/-- A guest packet as the guest port carries it (R190): a 2-byte body length bounds its bytes. -/
def GuestPacket.wf (p : GuestPacket) : Bool :=
  p.address < 2 ^ 48 && p.port < 2 ^ 16 && p.dest < 2 ^ 32 && p.destPort < 2 ^ 16 &&
    p.data.length + 14 < 2 ^ 16

/-- The command can be spelt on the port it comes from (chapter 11). -/
def Instr.wf : Instr → Bool
  | .lineRest => true
  | .attemptEnd _ => true
  | .frameReceive _ bytes _ => bytes.length ≤ 245
  | .quietSpell => true
  | .beaconDue => true
  | .entryQuiet _ => true
  | .entryAbsent _ => true
  | .takePrice => true
  | .takeShown => true
  | .takeHold => true
  | .watchExpiry => true
  | .takeChunk => true
  | .pullTimerExpiry => true
  | .laneFrameBad _ => true
  | .openBasket r => r.wf
  | .scan r item count => r.wf && item < 2 ^ 32 && count < 2 ^ 8
  | .weigh r item grams => r.wf && item < 2 ^ 32 && grams < 2 ^ 16
  | .voidLine r line => r.wf && line < 2 ^ 8
  | .ask r item => r.wf && item < 2 ^ 32
  | .total r => r.wf
  | .resume r => r.wf
  | .cash r amount => r.wf && amount < 2 ^ 32
  | .card r amount => r.wf && amount < 2 ^ 32
  | .cancel r => r.wf
  | .close r => r.wf
  | .authTimerExpiry _ => true
  | .takeAutha => true
  | .lateEntryExpiry _ => true
  | .laneReset _ => true
  | .takeJpull => true
  | .takeJrel => true
  | .labelAck radioId _ => radioId < 2 ^ 32
  | .updateTimeout => true
  | .notBeforeExpiry index => index < 1024
  | .bind r radioId item => r.wf && radioId < 2 ^ 32 && item < 2 ^ 32
  | .unbind r radioId => r.wf && radioId < 2 ^ 32
  | .release r item => r.wf && item < 2 ^ 32
  | .label r radioId => r.wf && radioId < 2 ^ 32
  | .clear r => r.wf
  | .link _ => true
  | .carrierPresenceLost => true
  | .carrierFree => true
  | .uplinkMalformed => true
  | .takeAuthq => true
  | .officeAuthAns tag _ => tag < 256
  | .authEntryExpiry tag => 1 ≤ tag && tag ≤ 64
  | .flowIdleExpiry index => index < 512
  | .guestPacketIn port data => port < 2 ^ 16 && data.length < 2 ^ 16
  | .assoc address => address < 2 ^ 48
  | .disassoc address => address < 2 ^ 48
  | .guestPacketOut packet => packet.wf
  | .apReset => true
  | .status => true
  | .guestFrameBad => true
  | .apLinkLost => true
  | .bucketRefill => true
  | .sessionEnd _ => true
  | .dayRoll => true
  | .windowOpenTime => true
  | .deadline1 => true
  | .deadline2 => true
  | .openHoursEdge => true
  | .takeClaim => true
  | .nightHeld => true
  | .nightPricesDone => true
  | .nightTime => true
  | .nightClosed => true
  | .claimWaitExpiry => true
  | .segmentWaitExpiry => true
  | .jtaken station seq => station < 256 && seq < 2 ^ 32
  | .takenWaitExpiry => true
  | .batchRec set => set.wf
  | .batchEnd newest => newest < 2 ^ 32
  | .stallWaitExpiry => true
  | .officeTime day second => day < 2 ^ 16 && second < 86400
  | .timeWaitExpiry => true
  | .dayDrainRestEnd => true
  | .powerOn _ _ => true
  | .resetPin _ _ => true
  | .profileReadDone bytes =>
    match bytes with
    | none => true
    | some b => b.length ≤ 96
  | .listenWaitExpiry => true
  | .unknownRequest _ number => number < 256
  | .laneAnswerSent _ => true
  | .laneBreakEnd _ => true
  | .powerLoss => true

end Sys2Proof
end

