-- ==== Sys2Proof/Safety.lean ====
section
/-! DEFINITION. What a good state of the station is, and the conditions the statements name: the invariants that every command
keeps, when a request is taken, and when nothing waits. -/

namespace Sys2Proof.Machine

/-! ## Invariants -/

/-- The item records stand in strictly ascending code order (R25), the labels in strictly ascending index order (R105). -/
def State.Ordered (s : State) : Prop :=
  (s.items.records.Pairwise fun a b => a.code < b.code) ∧ s.held.labels.Pairwise fun a b => a.index < b.index

/-- The Line Port's counts and inboxes are within their ranges (R11, R14, R16). -/
structure State.LineBounds (s : State) : Prop where
  sfc     : s.line.sfc ≤ Config.sfcLimit
  hfc     : s.line.hfc ≤ Config.hfcLimit
  quiet   : s.line.quietCount ≤ Config.quietSpells
  item    : s.line.itemInbox.length ≤ Config.itemDepth
  journal : s.line.journalInbox.length ≤ Config.journalDepth
  night   : s.line.nightInbox.length ≤ Config.nightDepth
  auth    : s.line.authInbox.length ≤ Config.authDepth

/-! ## Which commands are what -/

/-- The commands that start the station or cut its power. -/
def Instr.starts : Instr → Bool
  | .powerOn .. => true
  | .resetPin .. => true
  | .powerLoss => true
  | _ => false

/-- The lane whose context alone a command may touch (R24, R67): every request, and every event of one lane. -/
def Instr.ownLane : Instr → Option Lane
  | .laneFrameBad l => some l
  | .openBasket r => some r.lane
  | .scan r _ _ => some r.lane
  | .weigh r _ _ => some r.lane
  | .voidLine r _ => some r.lane
  | .ask r _ => some r.lane
  | .total r => some r.lane
  | .resume r => some r.lane
  | .cash r _ => some r.lane
  | .card r _ => some r.lane
  | .cancel r => some r.lane
  | .close r => some r.lane
  | .authTimerExpiry l => some l
  | .lateEntryExpiry l => some l
  | .laneReset l => some l
  | .bind r _ _ => some r.lane
  | .unbind r _ => some r.lane
  | .release r _ => some r.lane
  | .label r _ => some r.lane
  | .clear r => some r.lane
  | .unknownRequest l _ => some l
  | .laneAnswerSent l => some l
  | .laneBreakEnd l => some l
  | _ => none

/-- The request a command carries, and its kind code (R73, Table 4-1). -/
def Instr.request : Instr → Option (Request × Nat)
  | .openBasket r => some (r, 1)
  | .scan r _ _ => some (r, 2)
  | .weigh r _ _ => some (r, 3)
  | .voidLine r _ => some (r, 4)
  | .ask r _ => some (r, 5)
  | .total r => some (r, 6)
  | .resume r => some (r, 7)
  | .cash r _ => some (r, 8)
  | .card r _ => some (r, 9)
  | .cancel r => some (r, 10)
  | .close r => some (r, 11)
  | .bind r _ _ => some (r, 20)
  | .unbind r _ => some (r, 21)
  | .release r _ => some (r, 22)
  | .label r _ => some (r, 23)
  | .clear r => some (r, 24)
  | _ => none

/-! ## When a request is taken (R67 to R70) -/

/-- The station has power, takes requests on the lane, and none is in flight there. -/
structure LaneFree (s : State) (l : Lane) : Prop where
  power : s.start.powered = true
  takes : s.laneTakes l = true
  free  : (s.lane l).inFlight = none

/-- A TILL lane of a READY station with a good profile, whose basket is in one of the given states. -/
structure TillTakes (s : State) (l : Lane) (states : List BasketState) : Prop extends LaneFree s l where
  mode  : s.laneMode l = .till
  ready : s.notReady = false
  state : (s.lane l).basket.state ∈ states

/-- A SERVICE lane. -/
structure ServiceTakes (s : State) (l : Lane) : Prop extends LaneFree s l where
  mode : s.laneMode l = .service

/-! ## When nothing waits -/

/-- No message waits for a place in a queue, no carrier item can be chosen, no stage can end and no day drain is called
(R129, R131, R167, R175): what `settle` does is nothing. -/
structure AtRest (s : State) : Prop where
  night   : s.night.state ≠ .exchanging
  waiting : s.night.waiting = []
  report  : s.night.reports = []
  backlog : s.router.backlog = []
  carrier : (s.router.linkUp && s.router.linkFree) = false
  drain   : s.drainCalled = false

/-- Nothing follows the taking of a frame from the Item inbox: no PRICES_DONE waits there and no repair is marked (R17, R171). -/
structure InboxPlain (s : State) : Prop where
  waits  : s.items.doneWaits = []
  repair : s.line.repairAfterDrain = false

/-! ## What raising a fault flag may touch -/

/-- Everything but the Line Port, the Uplink Router, the Fault Record and the outputs. -/
def State.beside (s : State) : State :=
  { s with
    line := .initial, router := .initial, out := []
    faults := { flags := Vector.replicate 11 { raised := none, unsent := none }, journalHold := false } }

/-- `t` is `s` but for what the raising or dropping of the listed flags may do: their own places in the Fault Record, a NOTE in slot 3
or kept, the unsent mark of a note that is being sent again, and the forwarding of class A notes (R142, R185, R186). Where only
class B flags are listed, or the gateway role is not held here, the Uplink Router and the outputs stay. -/
structure SaveForNotes (may : List FaultFlag) (s t : State) : Prop where
  beside : t.beside = s.beside
  line   : t.line = { s.line with slots := t.line.slots, kept := t.line.kept }
  slots  : ∀ i : Fin 11, i ≠ 3 → t.slot i = s.slot i
  kept   : t.line.kept.filter (fun d => d.owner ≠ .note) = s.line.kept.filter (fun d => d.owner ≠ .note)
  flags  : ∀ f : FaultFlag, f ∉ may → (t.faults.flags[f.code.val]).raised = (s.faults.flags[f.code.val]).raised
  unsent : ∀ f : FaultFlag, f ∉ may → (∀ raised, Draft.note f raised true ∉ s.line.kept) →
    (t.faults.flags[f.code.val]).unsent = (s.faults.flags[f.code.val]).unsent
  hold   : t.faults.journalHold = s.faults.journalHold
  router : (∀ f ∈ may, f.classA = false) ∨ s.holdsRole = false → t.router = s.router ∧ t.out = s.out

/-- The state with a flag gone from clear to set (R185, R186): it takes the Clock's stamp, and its NOTE is in slot 3 or kept behind
the others; while SILENCED the NOTE ends at once, which leaves the unsent mark. -/
def flagRaised (s : State) (f : FaultFlag) : State :=
  { s with
    faults := { s.faults with
      flags := s.faults.flags.set f.code.val
        { raised := some s.stamp
          unsent := if s.silenced = true then some s.stamp else (s.faults.flags[f.code.val]).unsent } }
    line :=
      if s.silenced = true then s.line
      else if s.slot 3 = .free then
        { s.line with
          slots := s.line.slots.set 3 (.held .waiting
            { dest := none, payload := .note { flag := f, raised := s.stamp, stillSet := true }, applied := false } 0 false) }
      else { s.line with kept := s.line.kept ++ [.note f s.stamp false] } }

/-- The router with an OFFICE_NOTE handed to it: behind the SERVICE queue, else behind the note backlog, else counted as lost
(R142). -/
def noteForwarded (r : Router) (n : OfficeNote) : Router :=
  if r.serviceQueue.length + n.parts.length ≤ 16 then { r with serviceQueue := r.serviceQueue ++ n.parts }
  else if r.backlog.length < 16 then { r with backlog := r.backlog ++ [n] }
  else { r with notesLost := min (r.notesLost + 1) 65535 }

/-! ## Tables and states that statements name -/

/-- The slot an attempt leaves, by R8's table; with a withdraw mark it is FREE whatever the outcome (R9). -/
def slotLeft (f : Frame) (u : Nat) (withdrawn : Bool) (a : Attempt) : Slot :=
  if withdrawn then .free
  else
    match a with
    | .lost => .held .waiting f u false
    | .faulted => .held .waiting f u false
    | .carried => .free
    | .unheard => if u < 3 then .held .waiting f (u + 1) false else .free

/-- The send fault count an attempt leaves, by R11's table. -/
def faultsLeft (sfc : Nat) : Attempt → Nat
  | .lost => sfc
  | .faulted => min (sfc + 8) 256
  | .carried => sfc - 1
  | .unheard => min (sfc + 8) 256

/-- A stamp fits its six bytes (Table 11-3). -/
def Stamp.fits (t : Stamp) : Bool := t.day < 2 ^ 16 && t.second < 86400

/-- An item record fits its place in a CHUNK (Table 11-4). -/
def ItemRecord.fits (r : ItemRecord) : Bool :=
  r.code < 2 ^ 32 && r.version < 2 ^ 32 && r.book.wf && r.charge.wf &&
    match r.pending with
    | none => true
    | some p => p.version < 2 ^ 32

/-- The fields of a beacon fit their places (Table 11-3). -/
def Beacon.fits (b : Beacon) : Bool :=
  b.lanes ≤ 4 && b.day < 2 ^ 16 && b.second < 86400 && b.applied < 2 ^ 32 && b.overdueCount < 2 ^ 16 &&
    b.journalUsed < 2 ^ 16 && b.undrained < 2 ^ 8

/-- The fields of a frame of each kind fit their places, and take the values its rule gives them (R43, R83, R99, R158,
Table 11-3). -/
def Payload.fits : Payload → Bool
  | .authq _ _ basket amount => basket < 2 ^ 32 && amount < 2 ^ 32
  | .autha _ basket decision => basket < 2 ^ 32 && decision ∈ [.approved, .declined, .declinedNoRoute]
  | .claim => true
  | .night .held => true
  | .night (.pricesDone version) => version < 2 ^ 32
  | .night (.time day second) => day < 2 ^ 16 && second < 86400
  | .night (.closed result) => result ≠ .none
  | .note n => n.raised.fits
  | .price p => p.wf
  | .shown item version _ => item < 2 ^ 32 && version < 2 ^ 32
  | .hold item _ _ => item < 2 ^ 32
  | .beacon b => b.fits
  | .pull => true
  | .jpull count => count < 2 ^ 8
  | .jrel seq => seq < 2 ^ 32
  | .jseg g => g.seq < 2 ^ 32 && g.index < 2 ^ 8 && g.data.length ≤ 224 && (!g.empty || g.data.isEmpty)
  | .chunk c =>
    c.records.length ≤ 6 && c.records.all ItemRecord.fits && c.applied < 2 ^ 32 &&
      match c.status with
      | .records => c.applied == 0
      | .recordsEnd => true
      | .endAlone => c.records.isEmpty
      | .busy => c.records.isEmpty && c.applied == 0

/-- The kind and the item of a SHOWN or a HOLD: of two frames alike in both the deferred list keeps one (R37). -/
def Payload.ownItem : Payload → Option (Bool × Nat)
  | .shown item _ _ => some (false, item)
  | .hold item _ _ => some (true, item)
  | _ => none

/-- The state once an attempt is over: its slot as given, the send fault count as given, and the next line rest to be let pass
where the standing is GUARDED (R8, R11, R12). -/
def attemptOver (s : State) (i : Fin 11) (x : Slot) (sfc : Nat) : State :=
  { s with
    out := []
    line := { s.line with
      slots := s.line.slots.set i.val x, sfc := sfc
      letPass := s.line.letPass || decide (96 ≤ sfc ∨ 96 ≤ s.line.hfc) } }

/-- The frames whose owners act on no outcome: CLAIM, NIGHT and AUTHA. -/
def indifferent : Payload → Bool
  | .claim => true
  | .night _ => true
  | .autha .. => true
  | _ => false

/-- The Item inbox's head is a PRICE: TAKE_PRICE takes it (R27). Nothing waits behind the taking, and no pull is under way. -/
def PriceWaits (s : State) (n : Station) (p : PriceSet) (rest : List Received) : Prop :=
  s.start.powered = true ∧ s.line.itemInbox = { sender := n, payload := .price p } :: rest ∧ InboxPlain s ∧
    s.items.pull = none

/-- A new price state is less favourable than the charge state (R26). -/
def dearer (n c : PriceState) : Prop :=
  headline c < headline n ∨
    (headline n = headline c ∧
      ((c.multibuy ≠ none ∧ n.multibuy = none) ∨
        ∃ mn mc, n.multibuy = some mn ∧ c.multibuy = some mc ∧ mc.group * mn.count < mn.group * mc.count))

/-- A set's price state with the three faults of R28 corrected in place. -/
def mended (kind : ItemKind) (b : PriceState) : PriceState :=
  { b with
    markdown := min b.markdown 9000
    multibuy := b.multibuy.filter fun m =>
      kind == .unit && decide (2 ≤ m.count ∧ m.count ≤ 9 ∧ 1 ≤ m.group ∧ m.group ≤ 9999999) }

/-- A PRICE set in range of its code and price, with a price state or without (R28). -/
def setInRange (p : PriceSet) : Prop :=
  1 ≤ p.code ∧ p.code ≤ 99999999 ∧ ∀ b, p.body = some b → b.price ≤ 999999

/-- The state with a PRICE taken from the Item inbox and the Item Table as given. -/
def setTaken (s : State) (rest : List Received) (items : ItemTable) : State :=
  { s with out := [], line := { s.line with itemInbox := rest }, items := items }

/-- A label after an item-changed notice for its item (R109). -/
def noticed (s : State) (l : Label) : Label :=
  match l.state with
  | .current => { l with state := if s.needsUpdating l then .queued else .current }
  | .queued => { l with state := if s.needsUpdating l then .queued else .current }
  | .retryWait => { l with notBefore := none, attempts := 0, state := if s.needsUpdating l then .queued else .current }
  | .awaiting => l
  | .faulted => l

/-- The update queue after the labels that a test picks have been handled by the tables of R108 and R109: a QUEUED label in step
leaves it, and one that comes to QUEUED from the named states joins the tail, in index order. -/
def queueAfter (s : State) (hit : Label → Bool) (joining : List LabelState) : List Nat :=
  (s.labels.queue.filter fun i =>
      !(s.held.labels.any fun l => l.index == i && hit l && l.state == .queued && !s.needsUpdating l)) ++
    (s.held.labels.filter fun l => hit l && s.needsUpdating l && joining.contains l.state).map (·.index)

/-- The labels bound to an item after an item-changed notice, with their queue and the change mark of an exchange that serves one of
them (R109). -/
def labelsNoticed (s : State) (item : Nat) : State :=
  { s with
    held := { s.held with labels := s.held.labels.map fun l => if l.item = item then noticed s l else l }
    labels := { s.labels with
      queue := queueAfter s (fun l => l.item == item) [.current, .retryWait]
      exchange := s.labels.exchange.map fun e =>
        if ∃ l ∈ s.held.labels, l.item = item ∧ l.state = .awaiting ∧ l.index = e.index then { e with changed := true }
        else e } }

/-- A label after the READY pass (R108). -/
def readied (s : State) (l : Label) : Label :=
  match l.state with
  | .current => { l with state := if s.needsUpdating l then .queued else .current }
  | .queued => { l with state := if s.needsUpdating l then .queued else .current }
  | .awaiting => l
  | .retryWait => l
  | .faulted => l

/-- A void exchange ended (R114): its values and its count are discarded; a label still AWAITING at its index goes to QUEUED at the
tail, or to CURRENT where it is in step. -/
def voidEnded (s : State) (e : Exchange) : State :=
  { s with
    out := []
    held := { s.held with labels := s.held.labels.map fun l =>
      if l.index = e.index ∧ l.state = .awaiting then
        { l with state := if s.needsUpdating l then .queued else .current }
      else l }
    labels := { s.labels with
      exchange := none
      queue := s.labels.queue ++
        (s.held.labels.filter fun l => l.index == e.index && l.state == .awaiting && s.needsUpdating l).map (·.index) } }

/-- The lanes with one lane's context replaced. -/
def lanesWith (s : State) (l : Lane) (c : LaneContext) : Vector LaneContext 4 := s.lanes.set l.val c

/-- The state after a pull completes by an end mark with nothing to reconcile (R48): the pull over, and of the table only what is
given changed. -/
def pullCompleted (s : State) (rest : List Received) (t : ItemTable) : State :=
  { s with
    out := [], line := { s.line with itemInbox := rest }
    items := { s.items with
      pull := none, applied := t.applied, seen := t.seen, records := t.records, watch := t.watch } }

/-- The context of a lane after an answer: basket as given, the answer behind those not yet sent (R69, R73). -/
def answered (s : State) (l : Lane) (b : Basket) (number : Nat) (code : ResultCode) (contents : Contents) : LaneContext :=
  { s.lane l with
    basket := b
    answers := (s.lane l).answers ++
      [{ number := number, code := code, state := b.state
         basket := if b.state = .closed then 0 else s.held.baskets[l.val], contents := contents }] }

/-- A request refused: the answer alone, nothing else changed (R69, R70). -/
def refusal (s : State) (r : Request) (code : ResultCode) : State :=
  { s with out := [], lanes := lanesWith s r.lane (answered s r.lane (s.lane r.lane).basket r.number code .none) }

/-- SCAN for a UNIT item, WEIGH for a WEIGHED one (R56). -/
def priceRequest (want : ItemKind) (r : Request) (item quantity : Nat) : Instr :=
  match want with
  | .unit => .scan r item quantity
  | .weighed => .weigh r item quantity

/-- A basket that takes a card tender of no more than the amount remaining: PAID with no change due where it is all of it, else
TENDERING; a stand-in marks the basket (R65, R79, R83, R84). -/
def cardTaken (b : Basket) (amount : Nat) (standin : Bool) : Basket :=
  { b with
    tenders := b.tenders ++ [.card amount standin], standin := b.standin || standin
    state := if (amount : Int) < b.remaining then .tendering else .paid
    change := if (amount : Int) < b.remaining then b.change else some 0 }

/-- What the answer to that card carries (R73). -/
def cardContents (b : Basket) (amount : Nat) : Contents :=
  if (amount : Int) < b.remaining then .remaining (b.remaining - amount) else .change 0

/-- An auth entry of a lane that waits for its answer: the CARD is in flight and no AUTHQ is left in a slot or kept. -/
structure AuthWaits (s : State) (l : Lane) (e : AuthEntry) (n : Nat) : Prop where
  power  : s.start.powered = true
  here   : s.lanePresent l = true
  entry  : (s.lane l).auth = some e
  flight : (s.lane l).inFlight = some n
  state  : (s.lane l).basket.state = .authWait
  slot0  : s.slot 0 = .free
  slot1  : s.slot 1 = .free
  kept   : s.line.kept = []

/-- The late entry of an auth entry (R86). -/
def lateOf (e : AuthEntry) (now : Nat) (d : Decision) : LateEntry :=
  { basket := e.basket, amount := e.amount, decision := d, joined := now }

/-- Two decisions are of one class (R87): two approvals or two declines; NONE is its own. -/
def sameClass (a b : Decision) : Bool :=
  [[.approved, .approvedStandin], [.declined, .declinedNoAnswer, .declinedNoRoute], [.none]].any fun (c : List Decision) =>
    a ∈ c && b ∈ c

/-- The record a basket makes (R92). -/
def recordOf (s : State) (l : Lane) (type : RecordType) : JournalRecord :=
  { seq := s.held.nextSeq, inFlight := false
    content := .basket {
      type := type, station := s.self, lane := l, basket := s.held.baskets[l.val], stamp := s.stamp
      standin := (s.lane l).basket.standin, total := (s.lane l).basket.total
      tax := if type = .sale then (s.lane l).basket.tax else none
      lines := (s.lane l).basket.lines, tenders := (s.lane l).basket.tenders, change := (s.lane l).basket.change } }

/-- A lane after its basket has ended: CLOSED and empty, with the answers given (R72, R95). -/
def laneEnded (s : State) (l : Lane) (answers : List Answer) : LaneContext :=
  { s.lane l with basket := .empty, answers := answers }

/-- The answer of a request that ended its basket (R80, R81): OK, CLOSED, and the sequence number. -/
def endAnswer (number seq : Nat) : Answer :=
  { number := number, code := .ok, state := .closed, basket := 0, contents := .sequence seq }

/-- Held memory after a basket's end with a record: the record behind the newest with the next sequence number, the marker clear; the
basket number stays (R72, R90, R95, R98). -/
def heldEnded (s : State) (l : Lane) (type : RecordType) : HeldMemory :=
  { s.held with
    records := s.held.records ++ [recordOf s l type], nextSeq := s.held.nextSeq + 1
    markers := s.held.markers.set l.val none }

/-- The journal pressure for a figure of own used cells (R23): the highest among it and the last beacons of the PRESENT entries. -/
def IsPressure (s : State) (used p : Nat) : Prop :=
  used ≤ p ∧ (∀ n e, s.entry n = some e → e.presence = .present → e.beacon.journalUsed ≤ p) ∧
    (p = used ∨ ∃ n e, s.entry n = some e ∧ e.presence = .present ∧ p = e.beacon.journalUsed)

/-- The state with the journal-full condition tested (R97, R185): without room JOURNAL_FULL is raised; with room it drops, but stays
as it stands while a dropped note holds it. -/
def journalTested (s : State) : State :=
  if s.hasRoom = false then s.raise .journalFull
  else if s.faults.journalHold = true then s
  else
    { s with faults := { s.faults with
        flags := s.faults.flags.set 3 { raised := none, unsent := (s.faults.flags[3]).unsent } } }

/-- `t` is `s` with a lane's context and held memory as given, the pressure worked out again, and the journal-full condition tested
(R93, R97). -/
def BasketEnded (s t : State) (l : Lane) (held : HeldMemory) (c : LaneContext) : Prop :=
  IsPressure s held.used t.roster.pressure ∧
    t = journalTested { s with
      out := [], held := held, lanes := lanesWith s l c
      roster := { s.roster with pressure := t.roster.pressure } }

/-- The segment of a batch record (R100): up to 224 bytes of its cells, the last of the record where no cell stands behind it, and
marked where its record is the batch's newest. -/
def segment (s : State) (r : JournalRecord) (index : Nat) : Jseg :=
  { empty := false
    lastSeg := decide (7 * index < r.content.cells ∧ r.content.cells ≤ 7 * (index + 1))
    lastRecord := decide (((s.held.records.filter (·.inFlight)).getLast?).map (·.seq) = some r.seq)
    seq := r.seq
    index := index
    data := ((r.content.bytes r.seq).drop (224 * index)).take 224 }

/-- The router after the carrier link has gone DOWN with no authorisation queued (R138, R141). -/
def routerDown (r : Router) (heard : Option Nat) : Router :=
  { r with
    linkUp := false, linkFree := true, carrierHeard := heard, guestFlows := [], guestQueue := [], guestDeficit := 0
    guestDropped := min (r.guestDropped + r.guestQueue.length) 65535 }

/-- A guest packet behind the GUEST queue, naming its flow, with the flow table as given (R139). -/
def guestQueued (s : State) (flows : List GuestFlow) (k : Nat) (data : List Byte) : State :=
  { s with
    router := { s.router with guestFlows := flows, guestQueue := s.router.guestQueue ++ [{ flow := k, data := data }] } }

/-- A guest packet dropped at the router and counted, with the flow table as given (R139, R143). -/
def guestLost (s : State) (flows : List GuestFlow) : State :=
  { s with router := { s.router with guestFlows := flows, guestDropped := min (s.router.guestDropped + 1) 65535 } }

/-- A REFUSE of an association: counted, and sent with its reason (R146, R156). -/
def assocRefused (s : State) (a : Nat) (why : RefuseReason) : State :=
  { s with
    out := [.accessPoint (.refuse a why)]
    guest := { s.guest with apHeard := some s.clock.now, refused := min (s.guest.refused + 1) 65535 } }

/-- An admission to an association: the client's entry as given, and ADMIT (R146, R147). -/
def assocAdmitted (s : State) (a : Nat) (i : Fin 64) (e : GuestEntry) : State :=
  { s with
    out := [.accessPoint (.admission a)]
    guest := { s.guest with apHeard := some s.clock.now, table := s.guest.table.set i.val e } }

/-- A good frame heard by a station that is not SILENCED, before it is filed: acknowledged, the hear fault count 1 lower (R3, R11). -/
def heardGood (s : State) : State :=
  { s with out := [.acknowledge], line := { s.line with hfc := s.line.hfc - 1 } }

/-- A good frame heard, before it is filed: acknowledged, the hear fault count 1 lower; while SILENCED neither (R3, R11, R13). -/
def received (s : State) : State :=
  { s with
    out := if s.silenced then [] else [.acknowledge]
    line := { s.line with hfc := if s.silenced then s.line.hfc else s.line.hfc - 1 } }

/-- A payload length fits its kind code (Table 11-2); no length fits a code that is not in the table (R2, R188). -/
def lengthFits (kind length : Nat) : Bool :=
  match kind with
  | 10 => length == 10
  | 11 => length == 6
  | 20 => length == 0
  | 21 => length == 1 || length == 5 || length == 6 || length == 2
  | 22 => length == 8
  | 30 => length == 18
  | 31 => length == 9
  | 32 => length == 6
  | 40 => length == 17
  | 50 => length == 0
  | 51 => length == 1
  | 52 => length == 4
  | 53 => decide (6 ≤ length ∧ length ≤ 230)
  | 60 => (List.range 7).any fun records => length == 6 + 33 * records
  | _ => false

/-- The kinds of frame that Table 1-3 accepts only with this station as destination. -/
def onlyHere : Payload → Bool
  | .authq .. => true
  | .autha .. => true
  | .chunk _ => true
  | .pull => true
  | .jpull _ => true
  | .jrel _ => true
  | .jseg _ => true
  | _ => false

/-- The basket states in which Table 4-1 takes a TILL lane's request of a kind; for CANCEL the three cases of R80. -/
def takenIn : Nat → List BasketState
  | 1 => [.closed]
  | 7 => [.totalled]
  | 8 => [.totalled, .tendering]
  | 9 => [.totalled, .tendering]
  | 10 => [.opened, .totalled, .authWait]
  | 11 => [.paid]
  | _ => [.opened]

/-- The router after the flows a test picks are removed: the packets queued for them go too and are counted as dropped (R138). -/
def flowsGone (r : Router) (gone : GuestFlow → Bool) : Router :=
  { r with
    guestFlows := r.guestFlows.filter fun f => !gone f
    guestQueue := r.guestQueue.filter fun g => !((r.guestFlows.filter gone).any fun f => f.index == g.flow)
    guestDropped := min (r.guestDropped +
      (r.guestQueue.filter fun g => (r.guestFlows.filter gone).any fun f => f.index == g.flow).length) 65535 }

/-- A client whose session ends: ENDED with the ended time now, its session end gone (R153). -/
def sessionEnded (e : GuestEntry) (now : Nat) : GuestEntry := { e with state := .ended, sessionEnd := none, ended := some now }

/-- Every joined client's session ended at once with DROP, in ascending slot order, their flows and no others removed (R138, R153,
R154). -/
def guestsEnded (s : State) : State :=
  { s with
    out := s.out ++ (allSlots.filter fun i => (s.guestAt i).joined).map fun i =>
      .accessPoint (.drop ((s.guestAt i).address.getD 0))
    router := flowsGone s.router fun f => (s.guestAt f.slot).joined
    guest := { s.guest with
      table := s.guest.table.map fun e => if e.joined then sessionEnded e s.clock.now else e } }

/-- The guests shut out as a night window or a day drain begins (R132, R154): every joined client ends, and the GUEST deficit is 0. -/
def guestsShut (s : State) : State :=
  { guestsEnded s with router := { (guestsEnded s).router with guestDeficit := 0 } }

/-- The joined clients once the closed condition is worked out again (R144, R154): while it holds, they end. -/
def guestsByHours (s : State) : State := if s.closed = true then guestsEnded s else s

/-- The head of a shared class's queue as it goes to the carrier unit, its length, and the router without it (R127, R131,
R139). -/
def headOf (r : Router) : SharedClass → Option (CarrierItem × Nat × Router)
  | .night =>
    match r.nightQueue with
    | [] => none
    | p :: ps => some (.office p, p.data.length + 7, { r with nightQueue := ps })
  | .service =>
    match r.serviceQueue with
    | [] => none
    | p :: ps => some (.office p, p.data.length + 7, { r with serviceQueue := ps })
  | .guest =>
    match r.guestQueue with
    | [] => none
    | g :: gs =>
      some (.guest (20000 + g.flow) ((r.flow g.flow).elim 0 (·.dest)) ((r.flow g.flow).elim 0 (·.destPort)) g.data,
        g.data.length, { r with guestQueue := gs })

/-- The quantum of a shared class (R132). -/
def quantumOf (s : State) : SharedClass → Nat
  | .night => 4000
  | .service => 500
  | .guest =>
    if s.night.state ∈ [.claiming, .exchanging, .following] ∨ s.night.dayDrain = true then 0
    else if s.roster.pressure < 18432 then 1500
    else 750

/-- The NIGHT_REPORT of a result, each part from the block that R169 names, as it stands. -/
def reportOf (s : State) (result : NightResult) : Report where
  store := s.start.profile.store
  day := s.clock.day
  result := result
  drain := s.night.drain.toList
  refusedCount := s.night.refusedCount
  refused := s.night.refused
  overdueCount := (s.items.records.filter fun r => r.overdue).length
  overdue := ((s.items.records.filter fun r => r.overdue).take 256).map fun r => r.code
  unwatched := (s.items.records.filter fun r => decide (∃ p, r.pending = some p ∧ p.watched = false)).length
  faulted := (s.held.labels.filter fun l => l.state == .faulted).length
  lowBattery := (s.held.labels.filter fun l => l.battery == 0).length
  unknown := s.router.unknownAnswers
  dropped := s.router.guestDropped
  notesLost := s.router.notesLost
  malformed := s.router.malformed
  guestRefused := s.guest.refused
  policed := s.guest.policed
  touched := s.guest.touched.toList

/-- A frame newly placed in a FREE slot: WAITING, with an unheard count of 0 and no withdraw mark (R5). -/
def placed (dest : Option Station) (p : Payload) : Slot :=
  .held .waiting { dest := dest, payload := p, applied := false } 0 false

/-- A pull whose first PULL has just been produced (R45). -/
def freshPull (n : Station) : Pull :=
  { phase := .requested, target := n, tried := 0#8, repeated := false, touched := [], full := false, delivered := []
    unsure := false, deadline := none }

/-- A batch whose JPULL has just been produced (R165). -/
def freshBatch (n : Station) : Batch :=
  { target := n, phase := .requested, collected := [], part := none, broken := false, taken := 0, linkLost := false
    targetLost := false }

/-- A slot whose owner withdraws the frames that a test picks (R9): one WAITING leaves it, one SENDING takes the withdraw mark. -/
def slotWithout (test : Payload → Bool) : Slot → Slot
  | .free => .free
  | .held .waiting f u w => if test f.payload then .free else .held .waiting f u w
  | .held .sending f u w => .held .sending f u (test f.payload || w)

/-- Slot 2 of a claimer that follows, where it holds nothing but its CLAIM: one still WAITING is withdrawn, one SENDING stays (R161). -/
def claimGone : Slot → Slot
  | .held .waiting _ _ _ => .free
  | x => x

/-- A CHUNK of a serving: one that is not marked BUSY (R43, R44). -/
def servingChunk : Payload → Bool
  | .chunk c => decide (c.status ≠ .busy)
  | _ => false

/-- A CHUNK of the serving placed with the cursor as given (R43): up to six records after it in code order; the one that takes the
last of the table, or finds none left, carries the end mark and this station's A. -/
def ChunkAfter (s : State) (cursor : Nat) (c : Chunk) : Prop :=
  ∃ left : List ItemRecord, left = s.items.records.filter (fun r => cursor < r.code) ∧ c.records = left.take 6 ∧
    c.applied = (if left.length ≤ 6 then s.items.applied else 0) ∧
    c.status = (if left = [] then .endAlone else if left.length ≤ 6 then .recordsEnd else .records)

/-- An AUTHQ of a lane. -/
def authqOf (l : Lane) : Payload → Bool
  | .authq _ m _ _ => decide (m = l)
  | _ => false

/-- The night as a window opens FOLLOWING (R160). -/
def nightFollowing (s : State) (exchange : Option Station) (d1 : Bool) : Night :=
  { s.night with
    state := .following, d1 := d1, exchange := exchange, drain := Vector.replicate 8 .initial, releases := [] }

/-- The night as a window opens CLAIMING, with its 2 s claim wait (R160). -/
def nightClaiming (s : State) : Night :=
  { nightFollowing s none false with state := .claiming, claimUntil := some (s.clock.now + 2000) }

/-- The Line Port with a JPULL or a JREL produced while nothing is kept for slot 8: in the slot where it is FREE, else kept (R5). -/
def journalSent (s : State) (n : Station) (p : Payload) : LinePort :=
  if s.slot 8 = .free then { s.line with slots := s.line.slots.set 8 (placed (some n) p) }
  else { s.line with kept := s.line.kept ++ [.frame { dest := some n, payload := p, applied := false }] }

/-- What head office has taken of a peer's batch as its release notes it: each record's number and its cells (R164, R166). -/
def releaseNote (b : Batch) : Release :=
  { station := b.target, seq := b.taken, carried := false
    records := (b.collected.filter fun c => c.seq ≤ b.taken).map fun c => (c.seq, c.data.length / 32) }

/-! ## What is sent again: a line restart and a peer that becomes PRESENT (R10, R14) -/

/-- The flags whose unsent mark is set, in code order, each with the time kept with it (R186). -/
def unsentNotes (s : State) : List (FaultFlag × Stamp) :=
  allFlags.filterMap fun f => ((s.faults.flags[f.code.val]).unsent).map fun t => (f, t)

/-- A frame of the deferred list as it is sent again: it has been applied here already (R37). -/
def ownAgain (p : Payload) : Frame := { dest := none, payload := p, applied := true }

/-- Slots of which 3, 4 and 5 are FREE, once what the line has not heard is sent again: the first unsent note in slot 3, saying
whether the flag is still set (R186); the first two deferred frames in slots 4 and 5 (R37); slot 7 as given. -/
def resentSlots (s : State) (slots : Vector Slot 11) (still : FaultFlag → Bool) (slot7 : Slot) : Vector Slot 11 :=
  (((slots.set 3
      (match unsentNotes s with
        | [] => .free
        | (f, t) :: _ => placed none (.note { flag := f, raised := t, stillSet := still f }))).set 4
      (match s.items.deferred with
        | [] => .free
        | p :: _ => .held .waiting (ownAgain p) 0 false)).set 5
      (match s.items.deferred with
        | _ :: p :: _ => .held .waiting (ownAgain p) 0 false
        | _ => .free)).set 7 slot7

/-- The slots after a line restart that finds every slot FREE (R14), LINE_SILENCED having dropped. -/
def restartSlots (s : State) (slot7 : Slot) : Vector Slot 11 :=
  resentSlots s (Vector.replicate 11 Slot.free) (fun f => decide (f ≠ .lineSilenced) && s.flagSet f) slot7

/-- What is kept for the slots so filled: the other deferred frames, and behind them the other unsent notes. -/
def resentKept (s : State) : List Draft :=
  (s.items.deferred.drop 2).map (fun p => .frame (ownAgain p)) ++
    (unsentNotes s).tail.map fun x => .note x.1 x.2 true

/-- The Fault Record once a note is sent again: the unsent mark of the note now in slot 3 is cleared (R186). -/
def resentFlags (s : State) : Vector FlagEntry 11 :=
  Vector.ofFn fun i =>
    { raised := (s.faults.flags[i.val]).raised
      unsent := if ∃ x ∈ (unsentNotes s).head?, x.1.code = i then none else (s.faults.flags[i.val]).unsent }

/-- The Fault Record after a line restart: LINE_SILENCED has dropped too (R14). -/
def restartFlags (s : State) : Vector FlagEntry 11 :=
  (resentFlags s).set 2 { raised := none, unsent := ((resentFlags s)[2]).unsent }

/-- The Line Port once an exchange is given up (R162): as it was with no batch in hand; of a peer's batch a JREL goes to it with the
taken-through number, or 0 where head office has taken none of it. -/
def GivesUp (s : State) (line : LinePort) : Prop :=
  (s.night.batch = none ∧ line = s.line) ∨
    ∃ b, s.night.batch = some b ∧ b.target ≠ s.self ∧ s.silenced = false ∧ s.line.kept = [] ∧
      line = journalSent s b.target (.jrel (if ∃ c ∈ b.collected, c.seq ≤ b.taken then b.taken else 0))

/-! ## Falling SILENCED (R13) -/

/-- An attempt under way whose failure takes the send fault count to 256: its slot is the only one SENDING, and what is kept waits
for slots that are taken (R5, R11). -/
structure Falls (s : State) (i : Fin 11) (f : Frame) (u : Nat) : Prop where
  power  : s.start.powered = true
  slot   : s.slot i = .held .sending f u false
  only   : ∀ j, (s.slot j).isSending = true → j = i
  kept   : ∀ d ∈ s.line.kept, ∀ j ∈ d.owner.slots, s.slot j ≠ .free
  beacon : s.line.beaconKept = false
  low    : 248 ≤ s.line.sfc
  high   : s.line.sfc < 256

/-- What ends with result SILENCED: the frames in the slots, in slot order, and behind them what is kept, which is placed and ended
at once (R5, R13). -/
def endingNow (s : State) : List Draft := (s.line.slots.toList.filterMap fun x => x.frame.map .frame) ++ s.line.kept

/-- The first-raised time that a NOTE of the flag with a code carries. -/
def noteTime (code : Fin 11) : Draft → Option Stamp
  | .frame { payload := .note n, .. } => if n.flag.code = code then some n.raised else none
  | .note flag raised _ => if flag.code = code then some raised else none
  | _ => none

/-- What ends is of the serving: a CHUNK not marked BUSY, or the next one. -/
def isServing : Draft → Bool
  | .frame f => servingChunk f.payload
  | .nextChunk => true
  | .note .. => false

/-- What ends is a JSEG not marked EMPTY. -/
def isSegment : Draft → Bool
  | .frame { payload := .jseg g, .. } => !g.empty
  | _ => false

/-- An own SHOWN or HOLD that ends. -/
def ownFrame : Draft → Option Frame
  | .frame f => if f.payload.ownItem.isSome then some f else none
  | _ => none

/-- A card authorisation that ends unsent. -/
def isAuthq : Draft → Bool
  | .frame { payload := .authq .., .. } => true
  | _ => false

/-- The JREL that ends names a noted release. -/
def namesRelease (s : State) : Draft → Bool
  | .frame { payload := .jrel q, dest := some n, .. } => s.night.releases.any fun r => r.station == n && r.seq == q
  | _ => false

/-- The station as its fall leaves it, before its clients end where it was the gateway (R13): every slot FREE, nothing kept, the
count at 256; LINE_SILENCED raised, its note ended at once and forwarded by a gateway (R142, R186); the gateway derived anew. -/
def fallen (s : State) : State :=
  { s with
    out := []
    line := { s.line with slots := Vector.replicate 11 .free, kept := [], sfc := 256, quietCount := 0 }
    roster := { s.roster with gateway := State.gatewayNow { s with line := { s.line with sfc := 256 } } }
    router :=
      if s.flagSet .lineSilenced = false ∧ s.holdsRole = true then
        noteForwarded s.router
          { station := s.self, flag := .lineSilenced, raised := s.stamp, store := s.start.profile.store }
      else s.router
    faults := { s.faults with
      flags :=
        if s.flagSet .lineSilenced = true then s.faults.flags
        else s.faults.flags.set 2 { raised := some s.stamp, unsent := some s.stamp } } }

/-- What ends is a JPULL. -/
def isJpull : Draft → Bool
  | .frame { payload := .jpull _, .. } => true
  | _ => false

/-- The night once the standing is SILENCED: an exchange yields to nobody (R162), a day drain ends (R176), a batch of a peer being
given up with no JREL that could be sent; stated where no release is lost with its JREL or counts as its batch is given up. -/
def NightFallen (s : State) (night : Night) : Prop :=
  (s.night.state = .exchanging ∧ s.night.dayDrain = false ∧ (∀ b, s.night.batch = some b → b.target ≠ s.self) ∧
      night = { s.night.leaveExchange with
        state := .following, exchange := none, releases := []
        reports := if s.night.stage = some .report then s.night.reports.dropLast else s.night.reports }) ∨
    (s.night.state ≠ .exchanging ∧ s.night.dayDrain = true ∧ (∀ d ∈ endingNow s, namesRelease s d = false) ∧
      (∀ b, s.night.batch = some b → b.target ≠ s.self ∧
        ∀ r ∈ s.night.releases, r.station = b.target → r.carried = false) ∧
      night = { s.night with
        dayDrain := false, walk := none, batch := none, attempts := 0, restUntil := some (s.clock.now + 600000) }) ∨
    (s.night.state ≠ .exchanging ∧ s.night.dayDrain = false ∧ (∀ d ∈ endingNow s, namesRelease s d = false) ∧
      (s.night.batch = none ∨ ∀ d ∈ endingNow s, isJpull d = false) ∧ night = s.night)

/-- Nothing else is at hand that the fall would end (R13): no other frame, no pull, no exchange, no day drain, and not the gateway. -/
structure OnlyAttempt (s : State) (i : Fin 11) : Prop where
  slots : ∀ j, j ≠ i → s.slot j = .free
  kept  : s.line.kept = []
  pull  : s.items.pull = none
  night : s.night.state ≠ .exchanging ∧ s.night.dayDrain = false
  role  : s.holdsRole = false

/-- What an own SHOWN or HOLD not applied before makes of its item's record (R33 to R36): a SHOWN that counts, a join, and a leave of
an item neither blocked nor pending. -/
def OwnEffect (s : State) (p : Payload) (r x : ItemRecord) : Prop :=
  (∃ v q, p = .shown r.code v s.self ∧ r.pending = some q ∧ q.version ≤ v ∧ hasStation q.outstanding s.self = true ∧
      x = if dropStation q.outstanding s.self = 0#8 then { r with charge := r.book, pending := none, overdue := false }
        else { r with pending := some { q with outstanding := dropStation q.outstanding s.self } }) ∨
    (p = .hold r.code s.self true ∧ hasStation r.holders s.self = false ∧
      x = { r with holders := addStation r.holders s.self }) ∨
    (p = .hold r.code s.self false ∧ hasStation r.holders s.self = true ∧ r.pending = none ∧ r.blocked = false ∧
      x = { r with holders := dropStation r.holders s.self })

/-- The watch list once a record has lost its pending part (R33). -/
def watchLeft (s : State) (r x : ItemRecord) : List WatchEntry :=
  if r.pending.isSome = true ∧ x.pending = none then s.items.watch.filter fun w => !(w.code == r.code) else s.items.watch

/-- The Line Port and the deferred list once an own SHOWN or HOLD has been produced that is applied at once: with the alone flag
set it goes to slot 4, FREE here, as one already applied; while SILENCED it joins the deferred list, here with room and nothing
of its kind for the item (R36, R37). -/
def OwnAtOnce (s : State) (p : Payload) (line : LinePort) (deferred : List Payload) : Prop :=
  (s.silenced = false ∧ s.line.alone = true ∧ s.slot 4 = .free ∧ s.line.kept = [] ∧ deferred = s.items.deferred ∧
      line = { s.line with slots := s.line.slots.set 4 (.held .waiting (ownAgain p) 0 false) }) ∨
    (s.silenced = true ∧ line = s.line ∧ (∀ q ∈ s.items.deferred, q.ownItem ≠ p.ownItem) ∧
      s.items.deferred.length < 128 ∧ deferred = s.items.deferred ++ [p])

/-! ## Beacons heard (R20, R21) -/

/-- A BEACON of another station, for all or for this one, received whole. -/
structure BeaconComes (claim : BitVec 6) (bytes : List Byte) (s : State) (n : Station) (b : Beacon) : Prop where
  power : s.start.powered = true
  good  : goodReceive claim bytes = true
  read  : ∃ d, readFrame claim bytes = some (n, d, .beacon b) ∧ (d = none ∨ d = some s.self)
  other : n ≠ s.self

/-- The Roster's entries with the beacon's in place (R20, R21). -/
def entriesHeard (s : State) (n : Station) (b : Beacon) : Vector (Option PeerEntry) 8 :=
  s.roster.entries.set n.val (some { presence := .present, lastHeard := s.clock.now, beacon := b })

/-- A beacon filed in the Roster, with the sender's lead count (R20, R21, R41). -/
def beaconFiled (s : State) (n : Station) (b : Beacon) : State :=
  { received s with
    items := { s.items with
      leads := s.items.leads.set n.val (if s.items.applied < b.applied then s.items.leads[n.val] + 1 else 0) }
    roster := { s.roster with entries := entriesHeard s n b } }

/-- The station with its Clock made valid by a beacon (R183). -/
def clockAdopted (s : State) (b : Beacon) : State :=
  { s with clock := { s.clock with valid := true, day := b.day, second := b.second, sub := 0 } }

/-- Nothing in a beacon but its contents to file: the station is not SILENCED, it is not the third in a row that shows it ahead in the
table (R41), it shows a peer that does not exchange, and no Clock to adopt (R162, R183). -/
structure BeaconPlain (s : State) (n : Station) (b : Beacon) : Prop where
  full  : s.line.sfc < 256
  lead  : b.applied ≤ s.items.applied ∨ s.items.leads[n.val] < 2
  night : b.nightState ≠ .exchanging
  clock : s.clock.valid = true ∨ b.clockValid = false

/-! ## Peers that become ABSENT (R20) -/

/-- What one command takes from a peer that has become ABSENT (R20, R44, R102): its entry is ABSENT; a serving of it is abandoned and
its CHUNK withdrawn; a batch of this journal that it pulls ends, its records HELD and its JSEG withdrawn. -/
def peerGone (s : State) (n : Station) (e : PeerEntry) : State :=
  { s with
    out := []
    roster := { s.roster with entries := s.roster.entries.set n.val (some { e with presence := .absent }) }
    items :=
      if s.items.serving.any fun v => v.requester == n then { s.items with serving := none } else s.items
    journal := if s.journal.any fun b => b.puller == .peer n then none else s.journal
    held :=
      if s.journal.any fun b => b.puller == .peer n then
        { s.held with records := s.held.records.map fun r => { r with inFlight := false } }
      else s.held
    line := { s.line with
      slots :=
        (s.line.slots.set 10
          (if s.items.serving.any fun v => v.requester == n then slotWithout servingChunk (s.slot 10) else s.slot 10)).set 9
          (if s.journal.any fun b => b.puller == .peer n then slotWithout (fun p => decide (p.owner = .jseg)) (s.slot 9)
            else s.slot 9)
      kept := s.line.kept.filter fun d =>
        !((d.owner == .chunk && s.items.serving.any fun v => v.requester == n) ||
          (d.owner == .jseg && s.journal.any fun b => b.puller == .peer n)) } }

/-- An ENTRY_ABSENT that is due, of a peer other than a follower's exchange station; a serving of it has no BUSY CHUNK kept behind
it (R5). -/
structure GoesAbsent (s : State) (n : Station) (e : PeerEntry) : Prop where
  power    : s.start.powered = true
  entry    : s.entry n = some e
  quiet    : e.presence = .quiet
  due      : e.lastHeard + 10000 ≤ s.clock.now
  exchange : s.night.exchange ≠ some n
  chunks   : (∃ v, s.items.serving = some v ∧ v.requester = n) → ∀ d ∈ s.line.kept, d.owner = .chunk → d = .nextChunk

/-- The drain record as a station goes ABSENT in the walk and the walk goes on to another, or past station 7 (R164): its outcome
ABSENT, and those between passed by, ABSENT or UNKNOWN. -/
def drainPast (s : State) (drain : Vector DrainEntry 8) (n : Station) (next : Nat) : Vector DrainEntry 8 :=
  Vector.ofFn fun i =>
    if i = n then { drain[i.val] with outcome := .absent }
    else if n < i ∧ i.val < next then { drain[i.val] with outcome := if s.absent i = true then .absent else .none }
    else drain[i.val]

/-- A frame at the head of the Night inbox, taken from station n; `rest` stays. -/
def NightWaits (s : State) (n : Station) (p : Payload) (rest : List Received) : Prop :=
  s.start.powered = true ∧ s.line.nightInbox = { sender := n, payload := p } :: rest

/-- The state with the Night inbox's head taken. -/
def nightTaken (s : State) (rest : List Received) : State :=
  { s with out := [], line := { s.line with nightInbox := rest } }

end Sys2Proof.Machine
end

