-- ==== Sys2Proof/Certificates/Slice0/Obligations.lean ====
section
/-! DEFINITION. The statements for the provers: what the commands of the station do, each under the rule it follows. Where a
statement ends in `settle`, what waits for a place in a queue or a slot is then moved on (notes/assumptions/7.md). A wait
is over when its whole length has passed (notes/assumptions/54.md). -/

open Sys2Proof Sys2Proof.Machine

/-- The step runs the command at the front of the queue with the queue's rest. The queue, and that a command is taken whole
and one at a time, are the model's choice (notes/assumptions/3.md); the commands come in at the ports of section 1.2 of
00_scope.md and at the clock the station runs on from the start (R177). -/
def Obligations.StepRunsFrontCommand : Prop :=
  ∀ (c : Instr) (rest : List Instr) (s : State), s.pending = c :: rest → step s = exec c { s with pending := rest }

/-- With no command waiting, a step is one millisecond of running time: R182's rule of the counters under the model's own
choice of what an empty queue means (notes/assumptions/5.md) and of a 48-bit count that goes back to 0
(notes/assumptions/10.md). Nothing but the Clock, the outputs and the queue changes; without power nothing does. -/
def Obligations.EmptyQueuePassesOneMillisecond : Prop :=
  ∀ s : State, s.pending = [] →
    (s.start.powered = false → step s = .next s) ∧
    (s.start.powered = true →
      ∃ t : State, step s = .next t ∧ t = { s with clock := t.clock, out := [], pending := t.pending } ∧
        t.clock.now = (s.clock.now + 1) % 281474976710656 ∧ t.clock.valid = s.clock.valid ∧ t.clock.day = s.clock.day ∧
        (s.clock.valid = false → t.clock.second = s.clock.second) ∧
        (s.clock.valid = true → s.clock.sub < 999 → t.clock.second = s.clock.second) ∧
        (s.clock.valid = true → s.clock.sub = 999 → s.clock.second < 86399 → t.clock.second = s.clock.second + 1) ∧
        (s.clock.valid = true → s.clock.sub = 999 → s.clock.second = 86399 → .dayRoll ∈ t.pending))

/-- Every command answers a next state, in every state: none faults and none is refused. That the rules leave no value open
is the model's reading (DEDUCED, notes/assumptions/51.md), and that a command with nothing to act on, any but POWER_ON
without power, and POWER_ON with power answer a next state too is its choice (DESIGN CHOICE, notes/assumptions/13.md, 6.md,
14.md). No command changes the queue; none but a start or the loss of power changes the straps, power or running time (R177,
R182); and none but those and the profile read changes the profile (R179). -/
def Obligations.CommandsKeepQueueStrapsAndTime : Prop :=
  ∀ (c : Instr) (s : State), ∃ t : State, exec c s = .next t ∧
    t.pending = s.pending ∧
    (Instr.starts c = false →
      t.start.straps = s.start.straps ∧ t.start.powered = s.start.powered ∧ t.clock.now = s.clock.now ∧
      ((∀ bytes, c ≠ .profileReadDone bytes) →
        t.start.profile = s.start.profile ∧ t.start.profileBad = s.start.profileBad))

/-- Every step keeps the Line Port's counts and inboxes within their ranges: the send fault count at most 256, the hear
fault count at most 255 (R11), the quiet-spell count at most 32 (R14), and the Item, Journal, Night and Auth inboxes within
their depths (R16). -/
def Obligations.EveryStepKeepsLineBounds : Prop :=
  ∀ s t : State, s.LineBounds → step s = .next t → t.LineBounds

/-- Every step keeps the item records in strictly ascending code order (R25) and the labels in strictly ascending index
order (R105); that they are kept in that order is the model's one form of the two tables, so that equal tables are equal
data. -/
def Obligations.EveryStepKeepsCodeOrder : Prop :=
  ∀ s t : State, s.Ordered → step s = .next t → t.Ordered

/-- The state after reset meets both invariants: the Line Port's ranges (R11, R14, R16), and the code order of the item
records (R25) with the index order of the labels (R105). -/
def Obligations.ResetMeetsInvariants : Prop :=
  State.reset.LineBounds ∧ State.reset.Ordered

/-- A request, an answer, a break or a timer of one lane leaves the context, the marker and the basket number of every other
lane as they are (R67, R98). -/
def Obligations.LanesAreIsolated : Prop :=
  ∀ (c : Instr) (l other : Lane) (s t : State), Instr.ownLane c = some l → other ≠ l → exec c s = .next t →
    t.lane other = s.lane other ∧ t.held.markers[other.val] = s.held.markers[other.val] ∧
      t.held.baskets[other.val] = s.held.baskets[other.val]

/-- A cold start, by POWER_ON of a station in any state (a station that has power starts again, notes/assumptions/14.md) or
by RESET_PIN: every held part and every volatile part at its initial value, and HELD_LOST raised with the invalid clock's
stamp (R178, and the reset values R5, R11, R16, R20, R40, R72, R90, R104, R124, R130, R145, R158, R182). The profile stands
at its fixed values until it is read (notes/assumptions/4.md) and the carrier link is free (notes/assumptions/16.md): both
are the model's. -/
def Obligations.ColdStartLeavesInitialState : Prop :=
  ∀ (c : Instr) (pins : Straps) (s : State),
    (c = .powerOn pins false ∨ (c = .resetPin pins false ∧ s.start.powered = true)) →
    ∃ t : State, exec c s = .next t ∧
      t.start = { State.reset.start with straps := { pins with lanes := min pins.lanes 4 } } ∧
      t.line = State.reset.line ∧ t.roster = State.reset.roster ∧ t.items = State.reset.items ∧
      t.lanes = State.reset.lanes ∧ t.held = State.reset.held ∧ t.journal = none ∧ t.labels = State.reset.labels ∧
      t.router = State.reset.router ∧ t.guest = State.reset.guest ∧ t.night = State.reset.night ∧
      t.clock = State.reset.clock ∧ t.faults = State.reset.faults ∧ t.out = [] ∧ t.pending = s.pending

/-- A warm start, by POWER_ON of a station in any state (a station that has power starts again, notes/assumptions/14.md) or
by RESET_PIN: held memory is kept, its records reverted to HELD, AWAITING and RETRY_WAIT labels QUEUED again and in the
update queue, every label gone where no label radio is fitted (R104, R123, R178). Each marker that was set becomes one
LOST_BY_RESTART note in lane order, with the invalid clock's stamp, where there is room for all of them; in a journal that
has no cell or no number left, a state that R104 rules out, each is dropped as R96 drops a note, and holds JOURNAL_FULL.
Every marker is clear after it. The basket numbers stay, that of a lane which the straps now make absent too (the model's
choice, notes/assumptions/58.md). Every volatile part is at its initial value: line, Roster, Item Table, lanes, router,
guests, night, clock and start, the profile at its fixed values until it is read (notes/assumptions/4.md), the carrier link
free (notes/assumptions/16.md); but the pressure is this station's own use (R23), and where the journal cannot take another
basket JOURNAL_FULL is raised, with its NOTE in slot 3, and no other flag (R97, R186). -/
def Obligations.WarmStartKeepsHeldMemory : Prop :=
  ∀ (c : Instr) (pins : Straps) (s : State),
    (c = .powerOn pins true ∨ (c = .resetPin pins true ∧ s.start.powered = true)) →
    ∃ t : State, exec c s = .next t ∧
      (∀ (full : Bool) (kept : List Label) (note : Frame),
        full = decide (24576 < t.held.used + 69 ∨ 4294967295 ≤ t.held.nextSeq) →
        kept = (if pins.labelRadio then s.held.labels.map Label.restart else []) →
        note = { dest := none, applied := false, payload := .note {
          flag := .journalFull, raised := { valid := false, day := 0, second := 0 }, stillSet := true } } →
        t.start = { State.reset.start with straps := { pins with lanes := min pins.lanes 4 } } ∧
        t.line = { LinePort.initial with
          slots := if full then LinePort.initial.slots.set 3 (.held .waiting note 0 false) else LinePort.initial.slots } ∧
        t.roster = { entries := Vector.replicate 8 none, gateway := none, pressure := t.held.used } ∧
        t.items = State.reset.items ∧ t.lanes = State.reset.lanes ∧ t.journal = none ∧
        t.labels = { queue := (kept.filter fun l => l.state == .queued).map (·.index), exchange := none, held := true } ∧
        t.router = State.reset.router ∧ t.guest = State.reset.guest ∧ t.night = State.reset.night ∧
        t.clock = State.reset.clock ∧
        t.faults.flags = (if full
          then (Vector.replicate 11 { raised := none, unsent := none }).set 3 {
            raised := some { valid := false, day := 0, second := 0 }, unsent := none }
          else Vector.replicate 11 { raised := none, unsent := none }) ∧
        t.out = [] ∧ t.pending = s.pending ∧
        t.held.baskets = s.held.baskets ∧ t.held.labels = kept ∧ (∀ l : Lane, t.held.markers[l.val] = none)) ∧
      (∀ open_ : List (Lane × Nat),
        open_ = allLanes.filterMap (fun l => s.held.markers[l.val].map fun n => (l, n)) →
        (s.held.used + open_.length ≤ 24576 → s.held.nextSeq + open_.length ≤ 4294967295 →
          t.held.nextSeq = s.held.nextSeq + open_.length ∧ t.faults.journalHold = false ∧
          t.held.records = s.held.revert.records ++ open_.zipIdx.map fun x =>
            { seq := s.held.nextSeq + x.2, inFlight := false
              content := .lostByRestart pins.station x.1.1 x.1.2 { valid := false, day := 0, second := 0 } }) ∧
        (24576 ≤ s.held.used ∨ 4294967295 ≤ s.held.nextSeq →
          t.held.nextSeq = s.held.nextSeq ∧ t.faults.journalHold = (open_ != []) ∧
          t.held.records = s.held.revert.records))

/-- POWER_LOSS keeps held memory, and the queue and the straps, and loses everything volatile (R91, R178): line, Roster,
Item Table, lanes, the batch of the journal, the label unit's queue, router, guests, night, clock, Fault Record with no flag
set, and Start Control without power. That these stand at their initial values meanwhile is the model's choice
(notes/assumptions/15.md; among them the profile's fixed values, notes/assumptions/4.md, and the free carrier link,
notes/assumptions/16.md). Until POWER_ON no other command has an effect but to clear the port outputs, the model's reading
of a station without power (notes/assumptions/6.md). -/
def Obligations.PowerLossKeepsHeldMemory : Prop :=
  (∀ s : State, s.start.powered = true →
    exec .powerLoss s = .next { s with
      line := LinePort.initial, roster := State.reset.roster, items := State.reset.items, lanes := State.reset.lanes
      journal := none, labels := State.reset.labels, router := State.reset.router, guest := State.reset.guest
      night := State.reset.night, clock := State.reset.clock
      faults := { flags := Vector.replicate 11 { raised := none, unsent := none }, journalHold := false }
      start := { State.reset.start with powered := false, straps := s.start.straps }, out := [] }) ∧
  (∀ (c : Instr) (s : State), s.start.powered = false → (∀ pins kept, c ≠ .powerOn pins kept) →
    exec c s = .next { s with out := [] })

/-- PROFILE_READ_DONE outside PROFILE changes nothing (the model's choice, notes/assumptions/13.md). In PROFILE a good
profile is taken, a bad one is replaced by the fixed values and raises PROFILE_BAD; either way LISTEN is entered with the 2
s listen wait, the first beacon is placed in slot 6 and the next is due 1 s on (R19, R179, R180). LISTEN_WAIT_EXPIRY: with
no PRESENT peer above applied-through version 0 the station is READY: every label that is not FAULTED is tested by R108's
table, each bound item's confirmation check is made, in the order of the items' lowest label index (the model's choice,
notes/assumptions/60.md), the labels are held no longer, and the first exchange begins; else Start Control is in PULL, the
repair mark clear, with a PULL placed for the first target (R45, R180, R181). -/
def Obligations.ProfileReadEntersListen : Prop :=
  (∀ (bytes : Option (List Byte)) (s : State), s.start.powered = true → s.silenced = false →
    (s.start.phase ≠ .profile → exec (.profileReadDone bytes) s = .next { s with out := [] }) ∧
    (s.start.phase = .profile → s.slot 6 = .free →
      (∀ p, bytes.bind Profile.ofBytes = some p →
        exec (.profileReadDone bytes) s = .next { s with
          out := []
          start := { s.start with
            profile := p, profileBad := false, phase := .listen, listenUntil := some (s.clock.now + 2000) }
          line := { s.line with
            nextBeacon := some (s.clock.now + 1000)
            slots := s.line.slots.set 6 (.held .waiting { dest := none, payload := .beacon s.beacon, applied := false } 0
              false) } }) ∧
      (bytes.bind Profile.ofBytes = none →
        ∃ t : State, exec (.profileReadDone bytes) s = .next t ∧ t.flagSet .profileBad = true ∧
          SaveForNotes [.profileBad] { s with
            out := []
            start := { s.start with
              profile := .fixed, profileBad := true, phase := .listen, listenUntil := some (s.clock.now + 2000) }
            line := { s.line with
              nextBeacon := some (s.clock.now + 1000)
              slots := s.line.slots.set 6 (.held .waiting
                { dest := none, payload := .beacon { s.beacon with anyA := true }, applied := false } 0 false) } } t))) ∧
  (∀ (s : State) (w : Nat), s.start.powered = true → s.start.phase = .listen → s.start.listenUntil = some w →
    w ≤ s.clock.now → s.silenced = false → s.items.pull = none →
    (s.tableOffered = false → s.Ordered →
      exec .listenWaitExpiry s = .next (State.startExchange ((itemsOf s.held.labels).foldl State.confirmCheck { s with
        out := [], start := { s.start with phase := .ready, listenUntil := none }
        held := { s.held with labels := s.held.labels.map (readied s) }
        labels := { s.labels with held := false, queue := queueAfter s (fun _ => true) [.current] } }))) ∧
    (s.tableOffered = true → s.slot 7 = .free → s.line.kept = [] →
      ∃ n, s.firstTarget = some n ∧
        exec .listenWaitExpiry s = .next { s with
          out := [], start := { s.start with phase := .pull, listenUntil := none }
          items := { s.items with
            repairMark := false
            pull := some (freshPull n) }
          line := { s.line with slots := s.line.slots.set 7 (.held .waiting
            { dest := some n, payload := .pull, applied := false } 0 false) } }))

/-- The Fault Record. Raising a flag (R185, R186): one already set changes nothing; a clear one takes the Clock's stamp as
its first-raised time and gives a NOTE, still set, in slot 3, or kept while that is taken, its unsent mark as it was; while
SILENCED the NOTE ends at once and the mark is set with that time (R13). A class A flag raised at the gateway is forwarded:
behind the SERVICE queue, else behind the note backlog, else it is counted as lost (R142; stated while the carrier link
takes nothing). Dropping a flag clears its first-raised time alone (R185). CLEAR on a SERVICE lane, with its confirmation:
every flag, first-raised time, unsent mark and range touched flag is cleared, the level sources that still hold raise again,
and the answer carries the flags before and after (R185, R187). On a SERVICE lane the profile is good (R67), so the level
sources left are the standing and the journal. A station that is not SILENCED and has room in its journal raises nothing
again; with none, JOURNAL_FULL takes the present stamp and gives a NOTE anew (R187). -/
def Obligations.ClearEmptiesFaultRecord : Prop :=
  (∀ (s : State) (f : FaultFlag),
    (s.flagSet f = true → s.raise f = s) ∧
    (s.flagSet f = false → (s.slot 3 = .free → ∀ d ∈ s.line.kept, d.owner ≠ .note) →
      (f.classA = false ∨ s.holdsRole = false → s.raise f = flagRaised s f) ∧
      (f.classA = true → s.holdsRole = true → (s.router.linkUp && s.router.linkFree) = false →
        s.raise f = { flagRaised s f with
          router := noteForwarded s.router
            { station := s.self, flag := f, raised := s.stamp, store := s.start.profile.store } })) ∧
    s.dropFlag f = { s with
      faults := { s.faults with
        flags := s.faults.flags.set f.code.val
          { raised := none, unsent := (s.faults.flags[f.code.val]).unsent } } }) ∧
  (∀ (r : Request) (s : State), ServiceTakes s r.lane → r.confirm = 231 →
      ∃ t : State, exec (.clear r) s = .next t ∧ t.faults.journalHold = false ∧
        (∀ f : FaultFlag, f ≠ .lineSilenced → f ≠ .journalFull →
          t.faults.flags[f.code.val] = { raised := none, unsent := none }) ∧
        t.flagSet .lineSilenced = s.silenced ∧ t.flagSet .journalFull = !s.hasRoom ∧
        SaveForNotes allFlags { s with
          out := [], faults := { s.faults with journalHold := false }
          guest := { s.guest with touched := Vector.replicate 8 false }
          lanes := lanesWith s r.lane (answered s r.lane (s.lane r.lane).basket r.number .ok
            (.flags (allFlags.filter s.flagSet)
              ((if s.silenced then [.lineSilenced] else []) ++ if s.hasRoom then [] else [.journalFull]))) } t) ∧
  (∀ (r : Request) (s t : State), ServiceTakes s r.lane → r.confirm = 231 → s.silenced = false →
    t = { s with
      out := []
      faults := { flags := Vector.replicate 11 { raised := none, unsent := none }, journalHold := false }
      guest := { s.guest with touched := Vector.replicate 8 false } } →
    (s.hasRoom = true →
      exec (.clear r) s = .next { t with
        lanes := lanesWith s r.lane (answered s r.lane (s.lane r.lane).basket r.number .ok
          (.flags (allFlags.filter s.flagSet) [])) }) ∧
    (s.hasRoom = false → s.holdsRole = false → (s.slot 3 = .free → ∀ d ∈ s.line.kept, d.owner ≠ .note) →
      exec (.clear r) s = .next { flagRaised t .journalFull with
        lanes := lanesWith s r.lane (answered s r.lane (s.lane r.lane).basket r.number .ok
          (.flags (allFlags.filter s.flagSet) [.journalFull])) }))

/-- The outcome of an attempt (R7): LOST where arbitration was lost; FAULTED where a level read was not the one sent, or the
mark window was firm; CARRIED where the acknowledgement window was firm and the mark window loose; UNHEARD where both were
loose. -/
def Obligations.AttemptOutcomesFollowTheTable : Prop :=
  attemptOutcome .lostClaim = .lost ∧ attemptOutcome .mismatch = .faulted ∧
    (∀ ack : Bool, attemptOutcome (.sent ack true) = .faulted) ∧ attemptOutcome (.sent true false) = .carried ∧
    attemptOutcome (.sent false false) = .unheard

/-- LINE_REST (R6): SILENCED starts nothing; a rest to be let pass is let pass; else, with no attempt under way, the WAITING
slot of the smallest class, and of those the smallest number, goes to SENDING; with none WAITING nothing starts. -/
def Obligations.LineRestChoosesSmallestClass : Prop :=
  ∀ s : State, s.start.powered = true →
    (s.silenced = true → exec .lineRest s = .next { s with out := [] }) ∧
    (s.silenced = false → s.line.letPass = true →
      exec .lineRest s = .next { s with out := [], line := { s.line with letPass := false } }) ∧
    (s.silenced = false → s.line.letPass = false → (∀ i, (s.slot i).isSending = false) →
      ((∀ i f, (s.slot i).waitingFrame ≠ some f) → exec .lineRest s = .next { s with out := [] }) ∧
      (∀ (i : Fin 11) (f : Frame) (u : Nat) (w : Bool), s.slot i = .held .waiting f u w →
        (∀ (j : Fin 11) (g : Frame), (s.slot j).waitingFrame = some g →
          f.payload.lineClass < g.payload.lineClass ∨ (f.payload.lineClass = g.payload.lineClass ∧ i ≤ j)) →
        exec .lineRest s = .next { s with
          out := [.attempt f]
          line := { s.line with slots := s.line.slots.set i.val (.held .sending f u w) } }))

/-- ATTEMPT_END of a frame whose owner acts on no outcome, where no frame is kept, on a station the outcome does not
silence: the slot and the counts follow R7 to R11, and a station left GUARDED lets the next line rest pass (R12); of a
withdrawn frame the owner is told nothing more (notes/assumptions/30.md). What then waits elsewhere is settled. A slot that
such a frame or a PRICE leaves takes the oldest frame its owner keeps (R5; stated with its other slot taken). An own SHOWN
or HOLD not applied before is applied when its slot reports CARRIED, and when its fourth unheard attempt ends it, as a
peer's would be; in the second case it joins the deferred list (R36, R37; stated with no pull under way, for a SHOWN that
counts, a join, and a leave of an item neither blocked nor pending, and on an empty list). One applied before is applied no
more: a SHOWN or a HOLD that its fourth unheard attempt ends joins the list in place of one of its kind and item, else at
its end, the 129th pushing out the oldest (R37). A NOTE's end (R186): CARRIED clears its flag's unsent mark, the fourth
unheard attempt sets it with the NOTE's time. Withdrawal (R9): of an owner's frames that a test picks, one WAITING leaves
its slot and one SENDING takes the withdraw mark; one kept goes with them (the model's reading, notes/assumptions/9.md); no
other slot changes. Stated where every frame the owner keeps is picked. -/
def Obligations.AttemptEndDealsWithSlotAndCounts : Prop :=
  (∀ (how : AttemptEnd) (s : State) (i : Fin 11) (f : Frame) (u : Nat) (w : Bool) (a : Attempt),
    s.start.powered = true → s.silenced = false →
    s.slot i = .held .sending f u w → (∀ j, (s.slot j).isSending = true → j = i) → indifferent f.payload = true →
    s.line.kept = [] → s.line.beaconKept = false →
    a = (if attemptOutcome how = .unheard ∧ s.line.alone = true then .carried else attemptOutcome how) →
    faultsLeft s.line.sfc a < 256 →
    exec (.attemptEnd how) s = .next (State.settle { s with
      out := []
      line := { s.line with
        slots := s.line.slots.set i.val (slotLeft f u w a)
        sfc := faultsLeft s.line.sfc a
        letPass := s.line.letPass || decide (96 ≤ faultsLeft s.line.sfc a ∨ 96 ≤ s.line.hfc) } })) ∧
  (∀ (s : State) (i : Fin 11) (f g : Frame) (u : Nat) (xs ys : List Draft), s.start.powered = true → s.silenced = false →
    (indifferent f.payload = true ∨ ∃ p, f.payload = .price p) → s.slot i = .held .sending f u false →
    i ∈ f.payload.owner.slots → (∀ j ∈ f.payload.owner.slots, j ≠ i → s.slot j ≠ .free) →
    (∀ j, (s.slot j).isSending = true → j = i) → s.line.kept = xs ++ .frame g :: ys →
    (∀ d ∈ xs, d.owner ≠ f.payload.owner) → g.payload.owner = f.payload.owner → s.line.beaconKept = false →
    exec (.attemptEnd (.sent true false)) s = .next (State.settle
      (attemptOver { s with line := { s.line with kept := xs ++ ys } } i (.held .waiting g 0 false) (s.line.sfc - 1)))) ∧
  (∀ (s : State) (i : Fin 11) (f : Frame) (u : Nat) (carried : Bool) (r x : ItemRecord), s.start.powered = true →
    s.silenced = false → i ∈ [4, 5] → f.applied = false → s.slot i = .held .sending f u false →
    (∀ j, (s.slot j).isSending = true → j = i) → s.line.kept = [] → s.line.beaconKept = false → s.items.pull = none →
    (carried = false → s.line.alone = false ∧ u = 3 ∧ s.line.sfc < 248 ∧ s.items.deferred = []) →
    s.items.find r.code = some r → OwnEffect s f.payload r x →
    ∃ t : State, exec (.attemptEnd (.sent carried false)) s = .next t.settle ∧ t.items.find r.code = some x ∧
      (∀ code, code ≠ r.code → t.items.find code = s.items.find code) ∧
      t = attemptOver { s with items := { s.items with
        records := t.items.records
        watch := watchLeft s r x
        deferred := if carried then s.items.deferred else [f.payload] } } i .free
        (if carried then s.line.sfc - 1 else s.line.sfc + 8)) ∧
  (∀ (s : State) (i : Fin 11) (f : Frame) (key : Bool × Nat), s.start.powered = true → i ∈ [4, 5] →
    f.payload.ownItem = some key → f.applied = true → s.slot i = .held .sending f 3 false →
    (∀ j, (s.slot j).isSending = true → j = i) → s.line.alone = false → s.line.kept = [] → s.line.beaconKept = false →
    s.line.sfc < 248 →
    ∃ t : State, exec (.attemptEnd (.sent false false)) s = .next t.settle ∧
      ((∀ p ∈ s.items.deferred, p.ownItem ≠ some key) →
        t.items.deferred = (s.items.deferred ++ [f.payload]).drop (s.items.deferred.length + 1 - 128)) ∧
      (∀ xs p ys, s.items.deferred = xs ++ p :: ys → p.ownItem = some key → (∀ q ∈ xs, q.ownItem ≠ some key) →
        t.items.deferred = xs ++ f.payload :: ys) ∧
      t = attemptOver { s with items := { s.items with deferred := t.items.deferred } } i .free (s.line.sfc + 8)) ∧
  (∀ (s : State) (f : Frame) (n : Note) (u : Nat) (carried : Bool), s.start.powered = true → s.silenced = false →
    f.payload = .note n → s.slot 3 = .held .sending f u false → (∀ j, (s.slot j).isSending = true → j = 3) →
    s.line.kept = [] → s.line.beaconKept = false →
    (carried = false → s.line.alone = false ∧ u = 3 ∧ s.line.sfc < 248) →
    exec (.attemptEnd (.sent carried false)) s = .next (State.settle (attemptOver { s with
      faults := { s.faults with
        flags := s.faults.flags.set n.flag.code.val {
          raised := (s.faults.flags[n.flag.code.val]).raised, unsent := if carried then none else some n.raised } } }
      3 .free (if carried then s.line.sfc - 1 else s.line.sfc + 8)))) ∧
  (∀ (s : State) (o : Owner) (p : Frame → Bool),
    (∀ d ∈ s.line.kept, d.owner ≠ o ∨ ∃ f, d = .frame f ∧ p f = true) →
    ∃ t : State, s.withdraw o p = t ∧
      (∀ i ∈ o.slots, ∀ f u w,
        (s.slot i = .held .waiting f u w → t.slot i = if p f then .free else .held .waiting f u w) ∧
        (s.slot i = .held .sending f u w → t.slot i = .held .sending f u (p f || w))) ∧
      (∀ i : Fin 11, i ∉ o.slots ∨ s.slot i = .free → t.slot i = s.slot i) ∧
      t = { s with line := { s.line with slots := t.line.slots, kept := s.line.kept.filter fun d => d.owner ≠ o } })

/-- A failed attempt that takes SFC to 256 (R11, R12, R13): the standing is SILENCED, every slot is FREE and nothing is
kept, the quiet-spell count 0, and LINE_SILENCED is raised, its NOTE ended at once. Each frame in a slot or kept ends
SILENCED, in slot order and then as kept (the model's choice, notes/assumptions/27.md), and its owner is told: a NOTE's flag
takes its unsent mark and time (R186); an own SHOWN or HOLD applied before joins the deferred list as R37 gives (O15); the
serving of a CHUNK is abandoned (R44); a JSEG's batch stops sending (R100); CLAIM, NIGHT, AUTHA, PRICE, BEACON, JPULL and an
EMPTY or BUSY frame bring nothing. A pull is abandoned, its touched list with it, and the repair mark set (R45; in Start
Control's PULL stated with a PRESENT peer). An exchange yields with no exchange station (R162), a report that still waits
going with it (notes/assumptions/34.md), and a day drain ends, resting for 600 s (R176), a batch of a peer being given up
with it. The gateway is derived anew, and where the role was held LINE_SILENCED is forwarded first (R142; stated while the
carrier link takes nothing) and every joined client ends with DROP (R154). An own SHOWN or HOLD not applied before is
applied now and deferred, and an AUTHQ leaves its entry to the stand-in decision, which joins the late list (R13, R84);
these two are stated for a station with nothing else at hand. What then waits elsewhere is settled. -/
def Obligations.FaultsSilenceTheStation : Prop :=
  (∀ (s : State) (i : Fin 11) (f : Frame) (u : Nat) (how : AttemptEnd) (night : Night) (ds : List Draft) (x : State),
    Falls s i f u → attemptOutcome how = .faulted → NightFallen s night → ds = endingNow s →
    (∀ d ∈ ds, isAuthq d = false) → (∀ g ∈ ds.filterMap ownFrame, g.applied = true) →
    (s.items.pull ≠ none → s.start.phase = .pull → s.anyPresent = true) →
    (s.holdsRole = true → (s.router.linkUp && s.router.linkFree) = false ∧ s.router.guestDropped ≤ 65535) →
    x = { fallen s with
      night := night
      faults := { s.faults with flags := Vector.ofFn fun k =>
        { raised := ((fallen s).faults.flags[k.val]).raised
          unsent := match (ds.filterMap (noteTime k)).getLast? with
            | some t => some t
            | none => ((fallen s).faults.flags[k.val]).unsent } }
      items := { s.items with
        pull := none, repairMark := s.items.repairMark || s.items.pull.isSome
        serving := if ds.any isServing then none else s.items.serving
        deferred := ((ds.filterMap ownFrame).map (·.payload)).foldl joinDeferred s.items.deferred }
      journal := if ds.any isSegment then s.journal.map fun b => { b with cursor := none } else s.journal
      held := { s.held with records :=
        match s.journal with
        | some b =>
          if ds.any isSegment then
            s.held.records.map fun r =>
              { r with inFlight := r.inFlight && decide (∃ t, b.sentThrough = some t ∧ r.seq ≤ t) }
          else s.held.records
        | none => s.held.records } } →
    exec (.attemptEnd how) s = .next (State.settle (if s.holdsRole = true then guestsEnded x else x))) ∧
  (∀ (s : State) (i : Fin 11) (f : Frame) (u : Nat) (how : AttemptEnd) (r x : ItemRecord), Falls s i f u →
    attemptOutcome how = .faulted → OnlyAttempt s i → f.applied = false → s.items.deferred = [] →
    s.items.find r.code = some r → OwnEffect s f.payload r x →
    ∃ t : State, exec (.attemptEnd how) s = .next t.settle ∧ t.items.find r.code = some x ∧
      (∀ code, code ≠ r.code → t.items.find code = s.items.find code) ∧
      t = { fallen s with items := { s.items with
        records := t.items.records, watch := watchLeft s r x, deferred := [f.payload] } }) ∧
  (∀ (s : State) (i : Fin 11) (f : Frame) (u : Nat) (how : AttemptEnd) (l : Lane) (e : AuthEntry) (n : Nat) (b : Basket)
    (late : List LateEntry), Falls s i f u → attemptOutcome how = .faulted → OnlyAttempt s i →
    f.payload = .authq s.self l e.basket e.amount → (s.lane l).auth = some e → e.route = .line →
    (s.lane l).inFlight = some n → b = (s.lane l).basket → (e.amount : Int) ≤ b.remaining →
    late = ((s.lane l).late ++ [lateOf e s.clock.now
      (if e.amount ≤ s.start.profile.floorLimit then .approvedStandin else .declinedNoAnswer)]).drop
        ((s.lane l).late.length + 1 - 8) →
    (e.amount ≤ s.start.profile.floorLimit →
      exec (.attemptEnd how) s = .next (State.settle { fallen s with
        lanes := lanesWith s l { answered s l (cardTaken b e.amount true) n .approvedStandin (cardContents b e.amount) with
          inFlight := none, auth := none, late := late } })) ∧
    (s.start.profile.floorLimit < e.amount →
      exec (.attemptEnd how) s = .next (State.settle { fallen s with
        lanes := lanesWith s l { answered s l
          { b with state := if b.tenders = [] then .totalled else .tendering }
          n .declinedNoAnswer (.remaining b.remaining) with inFlight := none, auth := none, late := late } })))

/-- QUIET_SPELL (R14): a spell counts only while SILENCED, one for each below the 32nd. The 32nd is a line restart (R12,
R14), at which slots are FREE: both counts and the quiet-spell count are 0, LINE_SILENCED drops, and the gateway is derived
again (R22). A full repair pull is scheduled: with no PRESENT peer its mark waits, else a PULL for the first target is in
slot 7 (R42, R45). The deferred list is empty: its first two frames are in slots 4 and 5, applied already, the others kept
behind them (R37). Of the flags with an unsent mark, LINE_SILENCED's among them, which its raising while SILENCED has set,
the first in code order has its NOTE in slot 3, with the time kept, marked still set only where the flag is, LINE_SILENCED
no longer, and its mark cleared; the others' NOTEs wait for the slot with their marks (R186; their order is the model's
choice, notes/assumptions/79.md, as is that of the restart's parts, notes/assumptions/67.md). Nothing else changes before
what waits is settled. -/
def Obligations.QuietSpellsRestartTheLine : Prop :=
  (∀ s : State, s.start.powered = true →
    (s.silenced = false → exec .quietSpell s = .next { s with out := [] }) ∧
    (s.silenced = true → s.line.quietCount < 31 →
      exec .quietSpell s = .next { s with out := [], line := { s.line with quietCount := s.line.quietCount + 1 } })) ∧
  (∀ (s : State) (slot7 : Slot) (pull : Option Pull), s.start.powered = true → s.silenced = true → s.line.quietCount = 31 →
    s.start.phase ≠ .pull → s.roster.gateway ≠ some s.self → s.items.pull = none →
    (∀ p ∈ s.items.deferred, p.owner = .item) → (∀ i, s.slot i = .free) → s.line.kept = [] →
    (s.anyPresent = false → slot7 = .free ∧ pull = none) →
    (∀ n, s.firstTarget = some n → slot7 = placed (some n) .pull ∧ pull = some (freshPull n)) →
    exec .quietSpell s = .next (State.settle { s with
      out := []
      line := { s.line with sfc := 0, hfc := 0, quietCount := 0, slots := restartSlots s slot7, kept := resentKept s }
      items := { s.items with repairMark := !s.anyPresent, deferred := [], pull := pull }
      faults := { s.faults with flags := restartFlags s }
      roster := { s.roster with gateway := State.gatewayNow { s with line := { s.line with sfc := 0 } } } }))

/-- FRAME_RECEIVE (R3, R11, R13, R15, R16, R17): a bad receive is marked by a FULL station and counted by one not SILENCED;
a good one is acknowledged and lowers the hear fault count by 1; a SILENCED station does neither, but accepts by the same
rules. A good frame of any kind that is marked, of this station's own number or for another station, and one of an unknown
kind (R2), of a length that does not fit its kind by Table 11-2, or with a code outside its field (R188), reaches no inbox.
Table 1-3, for a good frame of another station to all or to this one: a kind that is only for its destination and was sent
to all, an AUTHQ or a NOTE at a station that is not the gateway, a NOTE of a class B flag (the class meant is the flag's,
notes/assumptions/23.md), and a JSEG with no pull outstanding to its sender (notes/assumptions/84.md) are dropped; PRICE,
SHOWN, HOLD and CHUNK join the Item inbox, JPULL and JREL the Journal inbox, CLAIM and NIGHT the Night inbox, AUTHQ and
AUTHA the Auth inbox; a full inbox loses the frame and raises INBOX_LOST (R16), and at the Item inbox a repair follows the
draining (stated with no PRESENT peer, where its mark stays, R42). A class A NOTE at the gateway goes to the SERVICE queue
as OFFICE_NOTE (R142; stated where it has a place and the carrier link is busy). A PULL while SILENCED brings no CHUNK: a
serving it begins, or begins anew, is abandoned at once (R13, R44). PULL else is in O26, BEACON in O19, and a JSEG that is
collected in O58. -/
def Obligations.FrameReceiveCountsAndAccepts : Prop :=
  (∀ (claim : BitVec 6) (bytes : List Byte) (marked : Bool) (s : State), s.start.powered = true →
    (goodReceive claim bytes = false →
      exec (.frameReceive claim bytes marked) s = .next { s with
        out := if s.line.sfc < 96 ∧ s.line.hfc < 96 then [.faultMark] else []
        line := { s.line with hfc := if s.line.sfc < 256 then min (s.line.hfc + 1) 255 else s.line.hfc } }) ∧
    (goodReceive claim bytes = true →
      marked = true ∨ readFrame claim bytes = none ∨ lengthFits (byteAt bytes 0).toNat (byteAt bytes 2).toNat = false ∨
        (∃ n d p, readFrame claim bytes = some (n, d, p) ∧ (n = s.self ∨ ∃ m, d = some m ∧ m ≠ s.self)) →
      exec (.frameReceive claim bytes marked) s = .next (received s))) ∧
  (∀ (claim : BitVec 6) (bytes : List Byte) (s : State) (n : Station) (d : Option Station) (p : Payload),
    s.start.powered = true → goodReceive claim bytes = true → readFrame claim bytes = some (n, d, p) →
    n ≠ s.self → (d = none ∨ d = some s.self) →
    ((onlyHere p = true ∧ d = none) ∨ (∃ o l b a, p = .authq o l b a ∧ s.roster.gateway ≠ some s.self) ∨
        (∃ x, p = .note x ∧ (x.flag.classA = false ∨ s.roster.gateway ≠ some s.self)) ∨
        (∃ g, p = .jseg g ∧ s.pullOutstanding n = false) →
      exec (.frameReceive claim bytes false) s = .next (received s)) ∧
    ((∃ x, p = .price x) ∨ (∃ i v m, p = .shown i v m) ∨ (∃ i m j, p = .hold i m j) ∨
        (∃ c, p = .chunk c ∧ d = some s.self) →
      (s.line.itemInbox.length < 32 →
        exec (.frameReceive claim bytes false) s = .next { received s with
          line := { (received s).line with itemInbox := s.line.itemInbox ++ [{ sender := n, payload := p }] } }) ∧
      (32 ≤ s.line.itemInbox.length →
        ∃ t : State, exec (.frameReceive claim bytes false) s = .next t ∧ t.flagSet .inboxLost = true ∧
          SaveForNotes [.inboxLost]
            { received s with line := { (received s).line with repairAfterDrain := true } } t)) ∧
    ((∃ k, p = .jpull k) ∨ (∃ q, p = .jrel q) → d = some s.self →
      (s.line.journalInbox.length < 8 →
        exec (.frameReceive claim bytes false) s = .next { received s with
          line := { (received s).line with journalInbox := s.line.journalInbox ++ [{ sender := n, payload := p }] } }) ∧
      (8 ≤ s.line.journalInbox.length →
        ∃ t : State, exec (.frameReceive claim bytes false) s = .next t ∧ t.flagSet .inboxLost = true ∧
          SaveForNotes [.inboxLost] (received s) t)) ∧
    (p = .claim ∨ (∃ m, p = .night m) →
      (s.line.nightInbox.length < 8 →
        exec (.frameReceive claim bytes false) s = .next { received s with
          line := { (received s).line with nightInbox := s.line.nightInbox ++ [{ sender := n, payload := p }] } }) ∧
      (8 ≤ s.line.nightInbox.length →
        ∃ t : State, exec (.frameReceive claim bytes false) s = .next t ∧ t.flagSet .inboxLost = true ∧
          SaveForNotes [.inboxLost] (received s) t)) ∧
    ((∃ o l b a, p = .authq o l b a ∧ s.roster.gateway = some s.self) ∨ (∃ l b x, p = .autha l b x) → d = some s.self →
      (s.line.authInbox.length < 16 →
        exec (.frameReceive claim bytes false) s = .next { received s with
          line := { (received s).line with authInbox := s.line.authInbox ++ [{ sender := n, payload := p }] } }) ∧
      (16 ≤ s.line.authInbox.length →
        ∃ t : State, exec (.frameReceive claim bytes false) s = .next t ∧ t.flagSet .inboxLost = true ∧
          SaveForNotes [.inboxLost] (received s) t)) ∧
    (∀ x, p = .note x → x.flag.classA = true → s.roster.gateway = some s.self → s.router.linkFree = false →
      s.router.serviceQueue.length < 16 →
      exec (.frameReceive claim bytes false) s = .next { received s with
        router := { s.router with
          serviceQueue := s.router.serviceQueue ++
            [{ kind := 10, index := 0, last := true
               data := beBytes 1 n.val ++ beBytes 1 x.flag.code.val ++ x.raised.bytes ++
                 beBytes 4 s.start.profile.store }] } }) ∧
    (p = .pull → d = some s.self → s.silenced = true → s.slot 10 = .free → (∀ x ∈ s.line.kept, x.owner ≠ .chunk) →
      exec (.frameReceive claim bytes false) s = .next { received s with
        items := { s.items with
          serving := if s.items.pull = none ∧ s.items.serving.all (fun v => v.requester == n) then none
            else s.items.serving } })) ∧
  (∀ (s : State) (n m : Station) (code v : Nat), s.start.powered = true → s.items.doneWaits = [] →
    s.line.itemInbox = [{ sender := n, payload := .shown code v m }] → s.line.repairAfterDrain = true →
    s.items.find code = none → s.anyPresent = false →
    exec .takeShown s = .next { s with
      out := [], items := { s.items with repairMark := true }
      line := { s.line with itemInbox := [], repairAfterDrain := false } })

/-- A BEACON of another station (R15, R20, R21): its entry takes the beacon, the present running time and the state PRESENT,
and no other entry changes. Gap detection (R41): one that shows a version above this station's A raises its lead count, else
that is 0; the third in a row asks for a repair pull and every count is 0: the pull starts, for the lowest PRESENT peer at
or above A (R45), or with one under way the repair mark is set. A peer that becomes PRESENT clears the alone flag (R10) and,
unless SILENCED, has the deferred list and the unsent NOTEs sent again (R37, R186; in code order, notes/assumptions/79.md;
stated with slots 3 to 5 FREE) and a marked repair pull started (R42). An invalid Clock adopts a valid one shown (R183): an
IDLE night before deadline 2 opens, CLAIMING where the takeover test holds, else FOLLOWING, and outside it the guests end
where the hours are closed. A beacon that shows EXCHANGING (R161, R162): a claimer follows; an exchanging station yields to
a lower number, as to its NIGHT(HELD) (notes/assumptions/34.md and 66.md), and answers a higher one with NIGHT(HELD).
ENTRY_QUIET and ENTRY_ABSENT (R20): a PRESENT entry 3 s after its peer was last heard becomes QUIET, a QUIET one ABSENT
after 10 s; the rest of it stays, and every other entry. Before its time neither changes anything (notes/assumptions/13.md).
Of a peer ABSENT a serving is abandoned (R44), a batch of this journal that it pulls ends, IN_FLIGHT records HELD, its JSEG
withdrawn, a kept one too (R102, notes/assumptions/9.md), and a batch taken from it (R164, R165) goes on to its release
where records are collected or put (notes/assumptions/38.md); else its drain ends with outcome ABSENT, CARRIED JRELs counted
(notes/assumptions/66.md), and the walk goes on to the next station, to PRICES, or in a day drain to its end (stated before
deadline 1, the next a peer). Gateway and pressure are worked out again (R22, R23) and what waits is settled. -/
def Obligations.BeaconsAgeThePeers : Prop :=
  (∀ (claim : BitVec 6) (bytes : List Byte) (s : State) (n : Station) (b : Beacon), BeaconComes claim bytes s n b →
    (∃ t : State, exec (.frameReceive claim bytes false) s = .next t.settle ∧ t.roster.entries = entriesHeard s n b) ∧
    (s.present n = true → BeaconPlain s n b →
      exec (.frameReceive claim bytes false) s = .next (State.settle (State.rosterRecalc (beaconFiled s n b))))) ∧
  (∀ (claim : BitVec 6) (bytes : List Byte) (s : State) (n : Station) (b : Beacon) (es : Vector (Option PeerEntry) 8),
    BeaconComes claim bytes s n b → s.present n = true → s.line.sfc < 256 → s.clock.valid = true →
    b.nightState ≠ .exchanging → s.items.applied < b.applied → es = entriesHeard s n b →
    (2 ≤ s.items.leads[n.val] → s.items.pull ≠ none →
      exec (.frameReceive claim bytes false) s = .next (State.settle (State.rosterRecalc { s with
        out := [.acknowledge], line := { s.line with hfc := s.line.hfc - 1 }, roster := { s.roster with entries := es }
        items := { s.items with leads := Vector.replicate 8 0, repairMark := true } }))) ∧
    (∀ (m : Station) (e : PeerEntry), 2 ≤ s.items.leads[n.val] → s.items.pull = none → es[m.val] = some e →
      e.presence = .present → s.items.applied ≤ e.beacon.applied →
      (∀ (j : Station) (x : PeerEntry), j < m → es[j.val] = some x → x.presence = .present →
        x.beacon.applied < s.items.applied) →
      s.slot 7 = .free → (∀ x ∈ s.line.kept, x.owner ≠ .pull) →
      exec (.frameReceive claim bytes false) s = .next (State.settle (State.rosterRecalc { s with
        out := [.acknowledge], roster := { s.roster with entries := es }
        line := { s.line with hfc := s.line.hfc - 1, slots := s.line.slots.set 7 (placed (some m) .pull) }
        items := { s.items with leads := Vector.replicate 8 0, repairMark := false, pull := some (freshPull m) } })))) ∧
  (∀ (claim : BitVec 6) (bytes : List Byte) (s x : State) (n : Station) (b : Beacon), BeaconComes claim bytes s n b →
    x = beaconFiled s n b → s.present n = false → b.nightState ≠ .exchanging → s.clock.valid = true ∨ b.clockValid = false →
    b.applied ≤ s.items.applied ∨ s.items.leads[n.val] < 2 →
    (256 ≤ s.line.sfc →
      exec (.frameReceive claim bytes false) s = .next (State.settle (State.rosterRecalc { x with
        line := { s.line with alone := false } }))) ∧
    (∀ (slot7 : Slot) (pull : Option Pull) (mark : Bool), s.line.sfc < 256 →
      (∀ p ∈ s.items.deferred, p.owner = .item) → s.slot 3 = .free → s.slot 4 = .free → s.slot 5 = .free →
      s.line.kept = [] →
      ((s.items.repairMark = false ∨ s.items.pull ≠ none) ∧ slot7 = s.slot 7 ∧ pull = s.items.pull ∧
          mark = s.items.repairMark) ∨
        (s.items.repairMark = true ∧ s.items.pull = none ∧ s.slot 7 = .free ∧ mark = false ∧
          ∃ m, x.firstTarget = some m ∧ slot7 = placed (some m) .pull ∧ pull = some (freshPull m)) →
      exec (.frameReceive claim bytes false) s = .next (State.settle (State.rosterRecalc { x with
        line := { x.line with
          alone := false, slots := resentSlots s s.line.slots s.flagSet slot7, kept := resentKept s }
        items := { x.items with deferred := [], repairMark := mark, pull := pull }
        faults := { s.faults with flags := resentFlags s } })))) ∧
  (∀ (claim : BitVec 6) (bytes : List Byte) (s x y : State) (n : Station) (b : Beacon) (since : Nat),
    BeaconComes claim bytes s n b → x = beaconFiled s n b → y = clockAdopted x b → s.present n = true →
    b.nightState ≠ .exchanging → b.applied ≤ s.items.applied ∨ s.items.leads[n.val] < 2 → s.clock.valid = false →
    b.clockValid = true → s.night.dayDrain = false → s.router.guestDropped ≤ 65535 →
    since = (b.second + 86400 - s.start.profile.w0 * 60) % 86400 →
    (s.night.state ≠ .idle ∨ s.start.profile.d2 * 60 ≤ since →
      exec (.frameReceive claim bytes false) s = .next (State.settle (State.rosterRecalc
        (guestsByHours y)))) ∧
    (s.night.state = .idle → since < s.start.profile.d2 * 60 →
      (s.uplinkUp = false ∨ s.start.profileBad = true ∨ s.start.profile.d1 * 60 ≤ since ∨ x.exchangingPeer ≠ none →
        exec (.frameReceive claim bytes false) s = .next (State.settle (State.rosterRecalc { guestsShut y with
          night := nightFollowing s x.exchangingPeer (decide (s.start.profile.d1 * 60 ≤ since)) }))) ∧
      (s.uplinkUp = true → s.start.profileBad = false → since < s.start.profile.d1 * 60 → x.exchangingPeer = none →
        s.line.sfc < 256 → s.slot 2 = .free → s.line.kept = [] →
        exec (.frameReceive claim bytes false) s = .next (State.settle (State.rosterRecalc { guestsShut y with
          line := { x.line with slots := s.line.slots.set 2 (placed none .claim) }, night := nightClaiming s }))))) ∧
  (∀ (claim : BitVec 6) (bytes : List Byte) (s x : State) (n : Station) (b : Beacon), BeaconComes claim bytes s n b →
    x = beaconFiled s n b → s.present n = true → s.line.sfc < 256 → b.nightState = .exchanging →
    s.clock.valid = true ∨ b.clockValid = false → b.applied ≤ s.items.applied ∨ s.items.leads[n.val] < 2 →
    (s.night.state ∈ [.idle, .following, .closed] →
      exec (.frameReceive claim bytes false) s = .next (State.settle (State.rosterRecalc x))) ∧
    (s.night.state = .claiming → (∀ f, (s.slot 2).frame = some f → f.payload = .claim) → s.line.kept = [] →
      exec (.frameReceive claim bytes false) s = .next (State.settle (State.rosterRecalc { x with
        line := { x.line with slots := s.line.slots.set 2 (claimGone (s.slot 2)) }
        night := { s.night with state := .following, claimUntil := none, exchange := some n } }))) ∧
    (s.night.state = .exchanging → s.self < n → s.slot 2 = .free → s.line.kept = [] →
      exec (.frameReceive claim bytes false) s = .next (State.settle (State.rosterRecalc { x with
        line := { x.line with slots := s.line.slots.set 2 (placed none (.night .held)) } }))) ∧
    (∀ line, s.night.state = .exchanging → n < s.self → GivesUp s line →
      exec (.frameReceive claim bytes false) s = .next (State.settle (State.rosterRecalc { x with
        line := { line with hfc := s.line.hfc - 1 }
        night := { s.night.leaveExchange with
          state := .following, exchange := some n, releases := []
          reports := if s.night.stage = some .report then s.night.reports.dropLast else s.night.reports } })))) ∧
  (∀ (n : Station) (e : PeerEntry) (s : State), s.start.powered = true → s.entry n = some e →
    (e.presence = .present → e.lastHeard + 3000 ≤ s.clock.now → s.items.pull = none → s.start.phase ≠ .pull →
      exec (.entryQuiet n) s = .next (State.settle (State.rosterRecalc { s with
        out := [], items := { s.items with leads := s.items.leads.set n.val 0 }
        roster := { s.roster with entries := s.roster.entries.set n.val (some { e with presence := .quiet }) } }))) ∧
    (e.presence ≠ .present ∨ s.clock.now < e.lastHeard + 3000 → exec (.entryQuiet n) s = .next { s with out := [] }) ∧
    (e.presence ≠ .quiet ∨ s.clock.now < e.lastHeard + 10000 → exec (.entryAbsent n) s = .next { s with out := [] })) ∧
  (∀ (n : Station) (e : PeerEntry) (s : State), GoesAbsent s n e → (∀ b, s.night.batch = some b → b.target ≠ n) →
    exec (.entryAbsent n) s = .next (State.settle (State.rosterRecalc (peerGone s n e)))) ∧
  (∀ (n : Station) (e : PeerEntry) (s x : State) (b : Batch) (counted : Night), GoesAbsent s n e → x = peerGone s n e →
    s.night.batch = some b → b.target = n → counted = s.night.releasesShown n none →
    (b.phase = .putting ∨ (∃ w, b.phase = .awaiting w) →
      exec (.entryAbsent n) s = .next (State.settle (State.rosterRecalc { x with
        night := { s.night with batch := some { b with targetLost := true } } }))) ∧
    (b.phase = .requested ∨ (∃ w, b.phase = .collecting w) → b.collected ≠ [] →
      exec (.entryAbsent n) s = .next (State.settle (State.rosterRecalc { x with
        night := { s.night with
          batch := some { b with phase := .putting, part := none, targetLost := true }
          waiting := s.night.waiting ++ b.collected.map fun c => .jput n c.seq c.data } }))) ∧
    (b.phase = .waitLink ∨ ((b.phase = .requested ∨ ∃ w, b.phase = .collecting w) ∧ b.collected = []) →
      (∀ m : Station, s.night.dayDrain = false → s.night.d1 = false → n < m → m ≠ s.self → s.entry m ≠ none →
        s.absent m = false → (∀ k : Station, n < k → k < m → k ≠ s.self ∧ (s.entry k = none ∨ s.absent k = true)) →
        (s.uplinkUp = true → s.silenced = false → (∀ d ∈ s.line.kept, d.owner ≠ .journal) →
          exec (.entryAbsent n) s = .next (State.settle (State.rosterRecalc { x with
            line := journalSent x m (.jpull 16)
            night := { counted with
              drain := drainPast s counted.drain n m.val, attempts := 0, walk := some m
              batch := some (freshBatch m) } }))) ∧
        (s.uplinkUp = false →
          exec (.entryAbsent n) s = .next (State.settle (State.rosterRecalc { x with
            night := { counted with
              drain := drainPast s counted.drain n m.val, attempts := 0, walk := some m
              batch := some { freshBatch m with phase := .waitLink, linkLost := true } } })))) ∧
      (s.night.dayDrain = false → s.night.d1 = false →
        (∀ m : Station, n < m → m ≠ s.self ∧ (s.entry m = none ∨ s.absent m = true)) →
        exec (.entryAbsent n) s = .next (State.settle (State.rosterRecalc { x with
          night := { counted with
            drain := drainPast s counted.drain n 8, attempts := 0, walk := none, batch := none
            drainOutcome := some false, stage := some .prices, stallUntil := none, askedAgain := false, newest := none
            pricesEnding := none, donePending := false
            waiting := s.night.waiting ++ [.batchReq s.items.applied] } }))) ∧
      (s.night.dayDrain = true →
        (∀ m : Station, n < m → (m ≠ s.self ∧ s.present m = false) ∨ s.figure m < 18432) →
        exec (.entryAbsent n) s = .next (State.settle (State.rosterRecalc { x with
          night := { counted with
            drain := counted.drain.set n.val { counted.drain[n.val] with outcome := .absent }
            attempts := 0, walk := none, batch := none, dayDrain := false
            restUntil := some (s.clock.now + 600000) } })))))

/-- A frame of any kind of Table 1-1, as its sender lays it out, is a good receive and reads back as its sender, destination
and contents (R2, R188, Tables 11-1 to 11-4): for every value of its fields that their places and their rules allow. -/
def Obligations.FramesReadBackAsSent : Prop :=
  ∀ (cls : Fin 8) (n : Station) (d : Option Station) (p : Payload) (claim : BitVec 6),
    claim = BitVec.ofNat 6 (cls.val * 8 + n.val) → p.fits = true →
    goodReceive claim (frameBytes claim d p) = true ∧ readFrame claim (frameBytes claim d p) = some (n, d, p)

/-- /-- BEACON_DUE (R18, R19): the next beacon is due 1 s after this one was; a FREE slot takes the beacon as the blocks
stand, a WAITING one has its contents renewed and keeps its unheard count, and a SENDING one has it kept. Its contents are
those of the table of R18, each from its block: roles from the straps, standing from the counts (R12), Clock, A and overdue
count, used cells, uplink, night, and whether a flag of class A and of class B (R185) is set. -/ -/
def Obligations.BeaconDueFillsSlotSix : Prop :=
  (∀ (s : State) (t : Nat), s.start.powered = true → s.silenced = false → s.line.nextBeacon = some t → t ≤ s.clock.now →
    (s.slot 6 = .free →
      exec .beaconDue s = .next { s with
        out := []
        line := { s.line with
          nextBeacon := some (t + 1000)
          slots := s.line.slots.set 6 (.held .waiting { dest := none, payload := .beacon s.beacon, applied := false } 0
            false) } }) ∧
    (∀ f u w, s.slot 6 = .held .waiting f u w →
      exec .beaconDue s = .next { s with
        out := []
        line := { s.line with
          nextBeacon := some (t + 1000)
          slots := s.line.slots.set 6 (.held .waiting { dest := none, payload := .beacon s.beacon, applied := false } u
            w) } }) ∧
    (∀ f u w, s.slot 6 = .held .sending f u w →
      exec .beaconDue s = .next { s with
        out := [], line := { s.line with nextBeacon := some (t + 1000), beaconKept := true } })) ∧
  (∀ s : State, s.beacon = {
    uplinkFitted := s.start.straps.uplink, guestFitted := s.start.straps.guestPort
    radioFitted := s.start.straps.labelRadio, lanes := min s.start.straps.lanes 4
    guarded := decide (s.line.sfc < 256 ∧ (96 ≤ s.line.sfc ∨ 96 ≤ s.line.hfc))
    clockValid := s.clock.valid, day := s.clock.day, second := s.clock.second, applied := s.items.applied
    overdueCount := (s.items.records.filter fun r => r.overdue).length
    journalUsed := (s.held.records.map fun r => r.content.cells).sum
    uplinkUp := decide (s.start.straps.uplink = true ∧ s.router.linkUp = true)
    nightState := s.night.state, nightResult := s.night.result, undrained := s.night.undrained
    anyA := decide (∃ f ∈ [FaultFlag.heldLost, .profileBad, .lineSilenced, .journalFull], s.flagSet f = true)
    anyB := decide (∃ f ∈ [FaultFlag.tableUnsure, .inboxLost, .increaseOverdue, .labelFaulted, .interceptTouched,
      .nightFailed, .itemRefused], s.flagSet f = true) })

/-- The gateway (R22): this station qualifies while its uplink is up and its standing is not SILENCED; a peer while its
entry is PRESENT and its last beacon shows its uplink up. The gateway is the lowest-numbered station that qualifies, and
there is none where no station does. -/
def Obligations.GatewayIsLowestQualified : Prop :=
  ∀ s : State,
    (s.qualifies s.self = true ↔ s.start.straps.uplink = true ∧ s.router.linkUp = true ∧ s.line.sfc < 256) ∧
    (∀ n : Station, n ≠ s.self →
      (s.qualifies n = true ↔
        ∃ e : PeerEntry, s.roster.entries[n.val] = some e ∧ e.presence = .present ∧ e.beacon.uplinkUp = true)) ∧
    (∀ g : Station, s.gatewayNow = some g ↔ (s.qualifies g = true ∧ ∀ n : Station, n < g → s.qualifies n = false)) ∧
    (s.gatewayNow = none ↔ ∀ n : Station, s.qualifies n = false)

/-- TAKE_PRICE with nothing waiting behind it. A stale set is marked seen and changes nothing else (R27, R40), and so is a
DELIST set for a code with no record (R29). A set out of range, whether or not its code has an older record, and one for a
new code while the table holds 16,384 records raise ITEM_REFUSED, are marked seen and change no record, and at the exchange
station the code joins the refused list (R28, R29, R167; that a set from the line joins it too is the model's reading,
notes/assumptions/44.md). A set for a code with no record makes one, its book and charge states both the set's, with the
faults of R28 corrected in place (R28, R29), and the Label Radio Controller is told (R32). The seen mark (R40): a version at
or below A, or more than 256 above it, leaves no mark; A + 1 carries A over the marks that follow on; any other joins the
window, once. -/
def Obligations.PriceSetsMakeOrLeaveRecords : Prop :=
  (∀ (s : State) (n : Station) (p : PriceSet) (rest : List Received), PriceWaits s n p rest →
    (∀ r, s.items.find p.code = some r → p.version ≤ r.version →
      exec .takePrice s = .next (setTaken s rest (s.items.markSeen p.version))) ∧
    (s.items.find p.code = none → p.body = none → setInRange p →
      exec .takePrice s = .next (setTaken s rest (s.items.markSeen p.version))) ∧
    ((∀ r, s.items.find p.code = some r → r.version < p.version) →
      ¬ setInRange p ∨ (s.items.find p.code = none ∧ p.body ≠ none ∧ 16384 ≤ s.items.records.length) →
      ∃ t : State, exec .takePrice s = .next t ∧ t.flagSet .itemRefused = true ∧
        SaveForNotes [.itemRefused] { setTaken s rest (s.items.markSeen p.version) with
          night := if s.night.state = .exchanging then
            { s.night with
              refused := (s.night.refused ++ [p.code]).take 256
              refusedCount := min (s.night.refusedCount + 1) 65535 }
            else s.night } t) ∧
    (∀ b, s.items.find p.code = none → p.body = some b → setInRange p →
      s.items.records.length < 16384 →
      ∃ t : State, exec .takePrice s = .next (t.itemChanged p.code) ∧
        t.items.find p.code = some {
          code := p.code, kind := p.kind, taxClass := p.taxClass, blocked := false, overdue := false, version := p.version
          book := mended p.kind b, charge := mended p.kind b, pending := none, holders := 0#8 } ∧
        (∀ code, code ≠ p.code → t.items.find code = s.items.find code) ∧
        t = setTaken s rest { s.items.markSeen p.version with records := t.items.records })) ∧
  (∀ (t : ItemTable) (v : Nat),
    (v ≤ t.applied ∨ t.applied + 256 < v → t.markSeen v = t) ∧
    (∀ k rest, v = t.applied + 1 → t.seen = (List.range k).map (t.applied + 2 + ·) ++ rest →
      (∀ x ∈ rest, t.applied + k + 2 < x) →
      t.markSeen v = { t with applied := t.applied + k + 1, seen := rest }) ∧
    (∀ xs ys, t.applied + 1 < v → v ≤ t.applied + 256 → t.applied + 1 ∉ t.seen → (∀ x ∈ xs, x < v) →
      (t.seen = xs ++ ys → (∀ y ∈ ys, v < y) → t.markSeen v = { t with seen := xs ++ v :: ys }) ∧
      (t.seen = xs ++ v :: ys → t.markSeen v = t)))

/-- A set that is neither stale nor out of range, with the faults of R28 corrected, for an item with a record (R26, R30,
R38). Less favourable than the charge state (R26: by headline, by a multibuy lost, or by a group price per unit that rises)
and the item held: the book state becomes the set's and the charge state stays; the increase is pending on every holder, an
older one replaced with its watch entry, and watched for 7,200 s where the list has room. The same with no holder: both
states are the set's, watch entry and overdue flag as they were. Not less favourable: both states are the set's, and a
pending increase is discarded with its watch entry and overdue flag. A DELIST set (R31): an unheld item's record goes; a
held one stays blocked at its charge state, its pending increase, watch entry and overdue flag gone; a blocked one takes the
version alone. Each marks its version seen (R40), and the Label Radio Controller is then told (R32); no other record and no
other part of the table changes. -/
def Obligations.PriceSetsOnRecords : Prop :=
  (∀ (s : State) (n : Station) (p : PriceSet) (b : PriceState) (r : ItemRecord) (rest : List Received),
    PriceWaits s n p rest → s.items.find p.code = some r → r.version < p.version → setInRange p →
    p.body = some b →
    ∃ t : State, exec .takePrice s = .next (t.itemChanged p.code) ∧ (∀ code, code ≠ p.code → t.items.find code = s.items.find code) ∧
      (¬ dearer (mended p.kind b) r.charge →
        t.items.find p.code = some { r with
          book := mended p.kind b, charge := mended p.kind b, version := p.version, kind := p.kind
          taxClass := p.taxClass, blocked := false, overdue := false, pending := none } ∧
        t = setTaken s rest { s.items.markSeen p.version with
          records := t.items.records, watch := s.items.watch.filter fun w => !(w.code == p.code) }) ∧
      (dearer (mended p.kind b) r.charge → r.holders = 0#8 →
        t.items.find p.code = some { r with
          book := mended p.kind b, charge := mended p.kind b, version := p.version, kind := p.kind
          taxClass := p.taxClass, blocked := false, pending := none } ∧
        t = setTaken s rest { s.items.markSeen p.version with records := t.items.records }) ∧
      (∀ left, dearer (mended p.kind b) r.charge → r.holders ≠ 0#8 →
        left = s.items.watch.filter (fun w => !(w.code == p.code)) →
        t.items.find p.code = some { r with
          book := mended p.kind b, version := p.version, kind := p.kind, taxClass := p.taxClass, blocked := false
          overdue := false
          pending := some { version := p.version, outstanding := r.holders, watched := decide (left.length < 256) } } ∧
        t = setTaken s rest { s.items.markSeen p.version with
          records := t.items.records
          watch := if left.length < 256 then
            left ++ [{ code := p.code, version := p.version, deadline := s.clock.now + 7200000 }]
            else left })) ∧
  (∀ (s : State) (n : Station) (p : PriceSet) (r : ItemRecord) (rest : List Received),
    PriceWaits s n p rest → s.items.find p.code = some r → r.version < p.version → setInRange p →
    p.body = none →
    ∃ t : State, exec .takePrice s = .next (t.itemChanged p.code) ∧
      t.items.find p.code =
        (if r.blocked = true then some { r with version := p.version }
         else if r.holders = 0#8 then none
         else some { r with
           blocked := true, version := p.version, book := r.charge, pending := none, overdue := false }) ∧
      (∀ code, code ≠ p.code → t.items.find code = s.items.find code) ∧
      t = setTaken s rest { s.items.markSeen p.version with
        records := t.items.records
        watch := if r.blocked = true then s.items.watch else s.items.watch.filter fun w => !(w.code == p.code) })

/-- TAKE_SHOWN (R33): it acts only on a pending part that it covers, for a station outstanding; the last one releases the
increase, with its watch entry, any other leaves it waiting for the rest; for a station not outstanding, or with no pending
part, the frame changes nothing. TAKE_HOLD (R34, R35): a join adds the station to the holder set and never to the
outstanding set; a leave takes it out of the holder set and, where it is outstanding, out of that: the last one outstanding
releases the increase, and with others left it stays pending on them; the last leave of a blocked item removes its record,
and the Label Radio Controller is told (R109). A frame for an unknown item, or one that says what is so already, changes
nothing. WATCH_EXPIRY (R39): the entry at the head, once due, goes; its item's record becomes overdue and INCREASE_OVERDUE
is raised. The increase itself stays pending. Before its time nothing changes (the model's choice, notes/assumptions/13.md).
Each command leaves all else as it was. -/
def Obligations.HoldersReleaseIncreases : Prop :=
  (∀ (s : State) (n m : Station) (item v : Nat) (rest : List Received), s.start.powered = true → InboxPlain s →
    s.items.pull = none → s.line.itemInbox = { sender := n, payload := .shown item v m } :: rest →
    (∀ r p, s.items.find item = some r → r.pending = some p → p.version ≤ v → hasStation p.outstanding m = true →
      ∃ t : State, exec .takeShown s = .next t ∧
        t.items.find item = some (
          if dropStation p.outstanding m = 0#8 then { r with charge := r.book, pending := none, overdue := false }
          else { r with pending := some { p with outstanding := dropStation p.outstanding m } }) ∧
        t.items.watch = (if dropStation p.outstanding m = 0#8 then s.items.watch.filter (fun w => !(w.code == item))
          else s.items.watch) ∧
        (∀ code, code ≠ item → t.items.find code = s.items.find code) ∧
        t = { s with out := [], line := { s.line with itemInbox := rest }, items := t.items } ∧
        t.items = { s.items with records := t.items.records, watch := t.items.watch }) ∧
    ((∀ r p, s.items.find item = some r → r.pending = some p → p.version ≤ v → hasStation p.outstanding m = false) →
      exec .takeShown s = .next { s with out := [], line := { s.line with itemInbox := rest } })) ∧
  (∀ (s : State) (n m : Station) (item : Nat) (join : Bool) (rest : List Received), s.start.powered = true →
    InboxPlain s → s.items.pull = none → s.line.itemInbox = { sender := n, payload := .hold item m join } :: rest →
    (s.items.find item = none →
      exec .takeHold s = .next { s with out := [], line := { s.line with itemInbox := rest } }) ∧
    (∀ r, s.items.find item = some r → hasStation r.holders m = join →
      exec .takeHold s = .next { s with out := [], line := { s.line with itemInbox := rest } }) ∧
    (∀ r, s.items.find item = some r → hasStation r.holders m = false → join = true →
      ∃ t : State, exec .takeHold s = .next t ∧ t.items.find item = some { r with holders := addStation r.holders m } ∧
        (∀ code, code ≠ item → t.items.find code = s.items.find code) ∧ t.items.watch = s.items.watch ∧
        t = { s with out := [], line := { s.line with itemInbox := rest }, items := t.items } ∧
        t.items = { s.items with records := t.items.records }) ∧
    (∀ r, s.items.find item = some r → hasStation r.holders m = true → join = false →
      r.blocked = false ∨ dropStation r.holders m ≠ 0#8 →
      ∃ t : State, exec .takeHold s = .next t ∧
        (r.pending = none →
          t.items.find item = some { r with holders := dropStation r.holders m } ∧ t.items.watch = s.items.watch) ∧
        (∀ p, r.pending = some p →
          (hasStation p.outstanding m = false →
            t.items.find item = some { r with holders := dropStation r.holders m } ∧ t.items.watch = s.items.watch) ∧
          (hasStation p.outstanding m = true → dropStation p.outstanding m ≠ 0#8 →
            t.items.find item = some { r with
              holders := dropStation r.holders m
              pending := some { p with outstanding := dropStation p.outstanding m } } ∧ t.items.watch = s.items.watch) ∧
          (hasStation p.outstanding m = true → dropStation p.outstanding m = 0#8 →
            t.items.find item = some { r with
              holders := dropStation r.holders m, charge := r.book, pending := none, overdue := false } ∧
            t.items.watch = s.items.watch.filter fun w => !(w.code == item))) ∧
        (∀ code, code ≠ item → t.items.find code = s.items.find code) ∧
        t = { s with out := [], line := { s.line with itemInbox := rest }, items := t.items } ∧
        t.items = { s.items with records := t.items.records, watch := t.items.watch }) ∧
    (∀ r, s.items.find item = some r → hasStation r.holders m = true → join = false → r.blocked = true →
      dropStation r.holders m = 0#8 →
      ∃ t : State, exec .takeHold s = .next (t.itemChanged item) ∧ t.items.find item = none ∧
        t.items.watch = s.items.watch.filter (fun w => !(w.code == item)) ∧
        (∀ code, code ≠ item → t.items.find code = s.items.find code) ∧
        t = { s with out := [], line := { s.line with itemInbox := rest }, items := t.items } ∧
        t.items = { s.items with records := t.items.records, watch := t.items.watch })) ∧
  (∀ (s : State) (w : WatchEntry) (rest : List WatchEntry) (r : ItemRecord), s.start.powered = true →
    s.items.watch = w :: rest → s.items.find w.code = some r →
    (s.clock.now < w.deadline → exec .watchExpiry s = .next { s with out := [] }) ∧
    (w.deadline ≤ s.clock.now →
      ∃ t : State, exec .watchExpiry s = .next t ∧ t.items.find w.code = some { r with overdue := true } ∧
        t.flagSet .increaseOverdue = true ∧ (∀ code, code ≠ w.code → t.items.find code = s.items.find code) ∧
        SaveForNotes [.increaseOverdue]
          { s with out := [], items := { s.items with watch := rest, records := t.items.records } } t))

/-- TAKE_CHUNK from the pull's target (R46): a record the table has not, of a code no live frame has touched, is put in it
as the snapshot stands, its code counts as delivered and the pull timer starts anew. A CHUNK of any other station changes
nothing. PULL_TIMER_EXPIRY (R47): the target fails; the lowest PRESENT peer not yet tried becomes the target and is sent a
PULL, the touched list kept and the delivered codes cleared; with none left TABLE_UNSURE is raised and the pull ends. Before
its time nothing changes (the model's choice, notes/assumptions/13.md). A touched code is passed over, an older record is
delivered but not taken, a newer one replaces the old, and one for which a full table has no place marks the pull unsure
(R46, R49). A live frame's code joins the touched list; at its 129th the pull is begun once more, and after that the list is
full (R49). BUSY fails the target at once (R47). The end mark (R48, R50): A becomes the snapshot's and the marks above it,
up to 256 (notes/assumptions/55.md), are kept and carry A on; a record neither delivered nor touched leaves with its watch
entry; a PULL still in slot 7 stays (the model's choice, notes/assumptions/76.md); a full list or an unsure mark raises
TABLE_UNSURE; the station's own holding is then put right by a HOLD join or leave. PULL at a station that serves none and
pulls none (R43, R44): a CHUNK of its six lowest records, with the end mark where those are all. From the requester being
served it starts the serving over: a CHUNK of it still in the slot is withdrawn, and the first CHUNK is placed at once or,
behind one SENDING or a BUSY one, when the slot reports. From another station, or while this one pulls, BUSY. A CHUNK
carried is followed by the next six, with the end mark and A where they are the last (R43); that one carried ends the
serving, and one unheard ends it. -/
def Obligations.PullsTakeChunksOrTryTheNextPeer : Prop :=
  (∀ (s : State) (n : Station) (r : ItemRecord) (p : Pull) (rest : List Received), s.start.powered = true → InboxPlain s →
    s.line.itemInbox = { sender := n, payload := .chunk { status := .records, records := [r], applied := 0 } } :: rest →
    s.items.pull = some p →
    (p.target ≠ n → exec .takeChunk s = .next { s with out := [], line := { s.line with itemInbox := rest } }) ∧
    (p.target = n → p.touched.contains r.code = false → s.items.find r.code = none → s.items.records.length < 16384 →
      r.pending = none → s.held.bound r.code = [] →
      ∃ t : State, exec .takeChunk s = .next t ∧ t.items.find r.code = some r ∧
        (∀ code, code ≠ r.code → t.items.find code = s.items.find code) ∧
        t = { s with
          out := [], line := { s.line with itemInbox := rest }
          items := { s.items with
            records := t.items.records, watch := s.items.watch.filter fun w => !(w.code == r.code)
            pull := some { p with
              phase := .receiving, deadline := some (s.clock.now + 2000), delivered := p.delivered ++ [r.code] } } })) ∧
  (∀ (s : State) (p : Pull) (d : Nat), s.start.powered = true → s.items.pull = some p → p.deadline = some d →
    s.slot 7 = .free → s.line.kept = [] →
    (s.clock.now < d → exec .pullTimerExpiry s = .next { s with out := [] }) ∧
    (d ≤ s.clock.now →
      (∀ m : Station, s.silenced = false → s.present m = true → hasStation (addStation p.tried p.target) m = false →
        (∀ k : Station, k < m → s.present k = false ∨ hasStation (addStation p.tried p.target) k = true) →
        exec .pullTimerExpiry s = .next { s with
          out := []
          items := { s.items with pull := some { p with
            phase := .requested, target := m, tried := addStation p.tried p.target, delivered := [], deadline := none } }
          line := { s.line with slots := s.line.slots.set 7 (.held .waiting
            { dest := some m, payload := .pull, applied := false } 0 false) } }) ∧
      ((∀ m : Station, s.present m = true → hasStation (addStation p.tried p.target) m = true) →
        s.items.repairMark = false → s.start.phase = .ready →
        ∃ t : State, exec .pullTimerExpiry s = .next t ∧ t.flagSet .tableUnsure = true ∧
          SaveForNotes [.tableUnsure] { s with out := [], items := { s.items with pull := none } } t))) ∧
  (∀ (s : State) (n : Station) (r old : ItemRecord) (p : Pull) (rest : List Received), s.start.powered = true → InboxPlain s →
    s.line.itemInbox = { sender := n, payload := .chunk { status := .records, records := [r], applied := 0 } } :: rest →
    s.items.pull = some p → p.target = n → s.held.bound r.code = [] →
    (r.code ∈ p.touched →
      exec .takeChunk s = .next { s with
        out := [], line := { s.line with itemInbox := rest }
        items := { s.items with
          pull := some { p with phase := .receiving, deadline := some (s.clock.now + 2000) } } }) ∧
    (r.code ∉ p.touched → s.items.find r.code = some old → r.version < old.version →
      exec .takeChunk s = .next { s with
        out := [], line := { s.line with itemInbox := rest }
        items := { s.items with pull := some { p with
          phase := .receiving, deadline := some (s.clock.now + 2000), delivered := p.delivered ++ [r.code] } } }) ∧
    (r.code ∉ p.touched → s.items.find r.code = some old → old.version ≤ r.version → r.pending = none →
      ∃ t : State, exec .takeChunk s = .next t ∧ t.items.find r.code = some r ∧
        (∀ code, code ≠ r.code → t.items.find code = s.items.find code) ∧
        t = { s with
          out := [], line := { s.line with itemInbox := rest }
          items := { s.items with
            records := t.items.records, watch := s.items.watch.filter fun w => !(w.code == r.code)
            pull := some { p with
              phase := .receiving, deadline := some (s.clock.now + 2000), delivered := p.delivered ++ [r.code] } } }) ∧
    (r.code ∉ p.touched → s.items.find r.code = none → 16384 ≤ s.items.records.length →
      exec .takeChunk s = .next { s with
        out := [], line := { s.line with itemInbox := rest }
        items := { s.items with pull := some { p with
          phase := .receiving, deadline := some (s.clock.now + 2000), unsure := true } } })) ∧
  (∀ (s : State) (n m : Station) (r : ItemRecord) (p : Pull) (rest : List Received), s.start.powered = true → InboxPlain s →
    s.line.itemInbox = { sender := n, payload := .hold r.code m true } :: rest → s.items.find r.code = some r →
    hasStation r.holders m = false → s.items.pull = some p → p.full = false → r.code ∉ p.touched →
    ∃ t : State, exec .takeHold s = .next t ∧ t.items.find r.code = some { r with holders := addStation r.holders m } ∧
      (p.touched.length < 128 → t = { s with
        out := [], line := { s.line with itemInbox := rest }
        items := { s.items with
          records := t.items.records, pull := some { p with touched := p.touched ++ [r.code] } } }) ∧
      (128 ≤ p.touched.length → p.repeated = true → t = { s with
        out := [], line := { s.line with itemInbox := rest }
        items := { s.items with records := t.items.records, pull := some { p with full := true } } }) ∧
      (128 ≤ p.touched.length → p.repeated = false → s.silenced = false → s.slot 7 = .free → s.line.kept = [] → t = { s with
        out := []
        line := { s.line with itemInbox := rest, slots := s.line.slots.set 7 (placed (some p.target) .pull) }
        items := { s.items with
          records := t.items.records
          pull := some { p with
            repeated := true, touched := [], delivered := [], phase := .requested, deadline := none } } })) ∧
  (∀ (s : State) (p : Pull) (m : Station) (rest : List Received), s.start.powered = true → InboxPlain s →
    s.line.itemInbox = { sender := p.target, payload := .chunk { status := .busy, records := [], applied := 0 } } :: rest →
    s.items.pull = some p → s.silenced = false → s.slot 7 = .free → s.line.kept = [] → s.present m = true →
    hasStation (addStation p.tried p.target) m = false →
    (∀ k : Station, k < m → s.present k = false ∨ hasStation (addStation p.tried p.target) k = true) →
    exec .takeChunk s = .next { s with
      out := []
      items := { s.items with pull := some { p with
        phase := .requested, target := m, tried := addStation p.tried p.target, delivered := [], deadline := none } }
      line := { s.line with itemInbox := rest, slots := s.line.slots.set 7 (placed (some m) .pull) } }) ∧
  (∀ (s : State) (p : Pull) (a : Nat) (rest : List Received), s.start.powered = true → InboxPlain s →
    s.line.itemInbox = { sender := p.target, payload := .chunk { status := .endAlone, records := [], applied := a } } :: rest →
    s.items.pull = some p → s.start.phase = .ready → s.items.repairMark = false →
    s.line.kept = [] →
    (s.held.labels = [] → (∀ r ∈ s.items.records, hasStation r.holders s.self = false) →
      ∃ t : State, exec .takeChunk s = .next t ∧
        (a + 1 ∉ s.items.seen → t.items.applied = a ∧
          ∀ v, v ∈ t.items.seen ↔ v ∈ s.items.seen ∧ a < v ∧ v ≤ a + 256) ∧
        (s.items.seen = [a + 1] → t.items.applied = a + 1 ∧ t.items.seen = []) ∧
        (∀ code, t.items.find code =
          if code ∈ p.delivered ∨ code ∈ p.touched then s.items.find code else none) ∧
        (∀ w, w ∈ t.items.watch ↔ w ∈ s.items.watch ∧
          (s.items.find w.code = none ∨ w.code ∈ p.delivered ∨ w.code ∈ p.touched)) ∧
        (p.unsure = false → p.full = false → t = pullCompleted s rest t.items) ∧
        (p.unsure = true ∨ p.full = true → t.flagSet .tableUnsure = true ∧
          SaveForNotes [.tableUnsure] (pullCompleted s rest t.items) t)) ∧
    (∀ (r : ItemRecord) (join : Bool), s.items.records = [r] → r.code ∈ p.delivered → r.pending = none →
      p.unsure = false → p.full = false → s.silenced = false → s.line.alone = false → s.slot 4 = .free →
      s.items.seen = [] → (∀ l ∈ s.held.labels, l.item = r.code) →
      (join = true ∧ s.held.labels ≠ [] ∧ hasStation r.holders s.self = false) ∨
        (join = false ∧ s.held.labels = [] ∧ hasStation r.holders s.self = true) →
      exec .takeChunk s = .next { s with
        out := [], items := { s.items with pull := none, applied := a }
        line := { s.line with
          itemInbox := rest, slots := s.line.slots.set 4 (placed none (.hold r.code s.self join)) } })) ∧
  (∀ (claim : BitVec 6) (bytes : List Byte) (s : State) (n : Station), s.start.powered = true → s.line.sfc < 256 →
    goodReceive claim bytes = true → readFrame claim bytes = some (n, some s.self, .pull) → n ≠ s.self →
    s.slot 10 = .free → s.line.kept = [] →
    (s.items.pull = none → s.items.serving = none → (∀ r ∈ s.items.records, 0 < r.code) →
      ∃ c : Chunk, c.records = s.items.records.take 6 ∧
        c.applied = (if s.items.records.length ≤ 6 then s.items.applied else 0) ∧
        c.status = (if s.items.records = [] then .endAlone else if s.items.records.length ≤ 6 then .recordsEnd else .records) ∧
        exec (.frameReceive claim bytes false) s = .next { heardGood s with
          line := { (heardGood s).line with slots := s.line.slots.set 10 (placed (some n) (.chunk c)) }
          items := { s.items with serving := some {
            requester := n, cursor := (c.records.getLast?).elim 0 (·.code) } } }) ∧
    (s.items.pull ≠ none ∨ (∃ v, s.items.serving = some v ∧ v.requester ≠ n) →
      exec (.frameReceive claim bytes false) s = .next { heardGood s with
        line := { (heardGood s).line with
          slots := s.line.slots.set 10 (placed (some n) (.chunk { status := .busy, records := [], applied := 0 })) } })) ∧
  (∀ (claim : BitVec 6) (bytes : List Byte) (s : State) (n : Station) (v : Serving), s.start.powered = true →
    s.line.sfc < 256 → goodReceive claim bytes = true → readFrame claim bytes = some (n, some s.self, .pull) → n ≠ s.self →
    s.items.pull = none → s.items.serving = some v → v.requester = n → (∀ d ∈ s.line.kept, d.owner = .chunk → d = .nextChunk) →
    (s.slot 10 = .free ∨ (∃ f u w, s.slot 10 = .held .waiting f u w ∧ servingChunk f.payload = true) →
      (∀ r ∈ s.items.records, 0 < r.code) →
      ∃ c : Chunk, c.records = s.items.records.take 6 ∧
        c.applied = (if s.items.records.length ≤ 6 then s.items.applied else 0) ∧
        c.status = (if s.items.records = [] then .endAlone else if s.items.records.length ≤ 6 then .recordsEnd else .records) ∧
        exec (.frameReceive claim bytes false) s = .next { heardGood s with
          line := { (heardGood s).line with
            slots := s.line.slots.set 10 (placed (some n) (.chunk c)), kept := s.line.kept.filter fun d => d.owner ≠ .chunk }
          items := { s.items with serving := some {
            requester := n, cursor := (c.records.getLast?).elim 0 (·.code) } } }) ∧
    (∀ f u w, s.slot 10 = .held .sending f u w ∨ (s.slot 10 = .held .waiting f u w ∧ servingChunk f.payload = false) →
      exec (.frameReceive claim bytes false) s = .next { heardGood s with
        line := { (heardGood s).line with
          slots := s.line.slots.set 10 (slotWithout servingChunk (s.slot 10))
          kept := s.line.kept.filter (fun d => d.owner ≠ .chunk) ++ [.nextChunk] }
        items := { s.items with serving := some { requester := n, cursor := 0 } } })) ∧
  (∀ (s : State) (f : Frame) (u : Nat) (v : Serving) (carried : Bool), s.start.powered = true →
    s.slot 10 = .held .sending f u true → (∀ j, (s.slot j).isSending = true → j = 10) → f.payload.owner = .chunk →
    s.items.serving = some v → s.line.alone = false → s.line.kept = [.nextChunk] → s.line.beaconKept = false →
    s.line.sfc < 88 → s.line.hfc < 96 →
    ∃ g : Chunk, ChunkAfter s v.cursor g ∧
      exec (.attemptEnd (.sent carried false)) s = .next (State.settle { s with
        out := []
        items := { s.items with serving := some { v with cursor := (g.records.getLast?).elim v.cursor (·.code) } }
        line := { s.line with
          kept := [], slots := s.line.slots.set 10 (placed (some v.requester) (.chunk g))
          sfc := if carried = true then s.line.sfc - 1 else s.line.sfc + 8 } })) ∧
  (∀ (s : State) (f : Frame) (c : Chunk) (v : Serving), s.start.powered = true → s.slot 10 = .held .sending f 3 false →
    (∀ j, (s.slot j).isSending = true → j = 10) → f.payload = .chunk c → c.status ≠ .busy → s.items.serving = some v →
    s.line.alone = false → s.line.kept = [] → s.line.beaconKept = false → s.line.sfc < 96 → s.line.hfc < 96 →
    (c.status = .recordsEnd ∨ c.status = .endAlone →
      exec (.attemptEnd (.sent true false)) s = .next (State.settle { s with
        out := [], items := { s.items with serving := none }
        line := { s.line with slots := s.line.slots.set 10 .free, sfc := s.line.sfc - 1 } })) ∧
    (c.status = .records →
      ∃ g : Chunk, ChunkAfter s v.cursor g ∧
        exec (.attemptEnd (.sent true false)) s = .next (State.settle { s with
          out := []
          items := { s.items with serving := some { v with cursor := (g.records.getLast?).elim v.cursor (·.code) } }
          line := { s.line with
            slots := s.line.slots.set 10 (placed (some v.requester) (.chunk g)), sfc := s.line.sfc - 1 } })) ∧
    (s.line.sfc < 88 →
      exec (.attemptEnd (.sent false false)) s = .next (State.settle { s with
        out := [], items := { s.items with serving := none }
        line := { s.line with slots := s.line.slots.set 10 .free, sfc := s.line.sfc + 8 } })))

/-- The common tests come before a request's own, in order (R69, R70, R71, Table 4-1): BUSY while another request is in
flight (CANCEL of a card apart), MODE on a lane of the other mode, NOT_READY on a TILL lane, PROTECTION for VOID, RELEASE
and CLEAR without their complement, and STATE in a basket state in which Table 4-1 does not take the request. On a lane that
is absent or in a break nothing happens. ASK alone has neither mode nor state. -/
def Obligations.CommonTestsComeInOrder : Prop :=
  ∀ (c : Instr) (r : Request) (k : Nat) (s : State), Instr.request c = some (r, k) → s.start.powered = true →
    (s.laneTakes r.lane = false → exec c s = .next { s with out := [] }) ∧
    (s.laneTakes r.lane = true →
      ((s.lane r.lane).inFlight ≠ none → (k ≠ 10 ∨ (s.lane r.lane).basket.state ≠ .authWait) →
        exec c s = .next (refusal s r .busy)) ∧
      ((s.lane r.lane).inFlight = none →
        (k ≠ 5 → (s.laneMode r.lane = .till ↔ 20 ≤ k) → exec c s = .next (refusal s r .mode)) ∧
        (k < 20 → k ≠ 5 → s.laneMode r.lane = .till → s.notReady = true → exec c s = .next (refusal s r .notReady)) ∧
        ((k = 22 ∨ k = 24) → s.laneMode r.lane = .service → r.confirm + k ≠ 255 →
          exec c s = .next (refusal s r .protection)) ∧
        (k = 4 → s.laneMode r.lane = .till → s.notReady = false → r.confirm + 4 ≠ 255 →
          exec c s = .next (refusal s r .protection)) ∧
        (k < 20 → k ≠ 5 → s.laneMode r.lane = .till → s.notReady = false → (k = 4 → r.confirm + 4 = 255) →
          (s.lane r.lane).basket.state ∉ takenIn k → exec c s = .next (refusal s r .state))))

/-- LANE_FRAME_BAD, UNKNOWN_REQUEST, LANE_ANSWER_SENT and LANE_BREAK_END (R68, R69, R70, R88). LANE_RESET (R88): the unsent
answers and the request in flight are dropped and the lane takes nothing until the break ends; a basket with lines or
tenders is written off as LOST_BY_RESET, any other closes with no record; an absent lane does nothing. The CARD in flight
ends its auth entry, which joins the late list with decision NONE, the ninth pushing out the oldest (R86); its AUTHQ is
discarded if kept, leaves its slot if WAITING and takes the withdraw mark if SENDING (R85, which the model follows before
R24, notes/assumptions/26.md; stated with no other authorisation kept). Pressure and JOURNAL_FULL follow the journal (R23,
R97); what its new figure of used cells calls for is settled. -/
def Obligations.LaneFramesAnswersBreaksAndResets : Prop :=
  (∀ (l : Lane) (n : Nat) (s : State), s.start.powered = true →
    (s.laneTakes l = true →
      exec (.laneFrameBad l) s = .next { s with
        out := [], lanes := lanesWith s l (answered s l (s.lane l).basket 0 .check .none) } ∧
      exec (.unknownRequest l n) s = .next { s with
        out := []
        lanes := lanesWith s l (answered s l (s.lane l).basket n
          (if (s.lane l).inFlight = none then .unknownRequest else .busy) .none) }) ∧
    (s.laneTakes l = false →
      exec (.laneFrameBad l) s = .next { s with out := [] } ∧ exec (.unknownRequest l n) s = .next { s with out := [] }) ∧
    exec (.laneAnswerSent l) s = .next { s with
      out := [], lanes := lanesWith s l { s.lane l with answers := (s.lane l).answers.drop 1 } } ∧
    exec (.laneBreakEnd l) s = .next { s with out := [], lanes := lanesWith s l { s.lane l with broken := false } }) ∧
  (∀ (l : Lane) (s : State), s.start.powered = true →
    (s.lanePresent l = false → exec (.laneReset l) s = .next { s with out := [] }) ∧
    (∀ (x : State) (late : List LateEntry), s.lanePresent l = true →
      ((s.lane l).auth = none ∧ x = s ∧ late = (s.lane l).late) ∨
        (∃ e, (s.lane l).auth = some e ∧
          (∀ d ∈ s.line.kept, d.owner = .auth → ∃ f, d = .frame f ∧ authqOf l f.payload = true) ∧
          late = ((s.lane l).late ++ [lateOf e s.clock.now .none]).drop ((s.lane l).late.length + 1 - 8) ∧
          x = { s with line := { s.line with
            slots := (s.line.slots.set 0 (slotWithout (authqOf l) (s.slot 0))).set 1 (slotWithout (authqOf l) (s.slot 1))
            kept := s.line.kept.filter fun d => d.owner ≠ .auth } }) →
      ((s.lane l).basket.state = .closed →
        exec (.laneReset l) s = .next { x with
          out := []
          lanes := lanesWith s l { s.lane l with
            inFlight := none, answers := [], broken := true, auth := none, late := late } }) ∧
      ((s.lane l).basket.state ≠ .closed → ((s.lane l).basket.lines ≠ [] ∨ (s.lane l).basket.tenders ≠ []) →
        ∃ t : State, exec (.laneReset l) s = .next t.settle ∧
          BasketEnded x t l (heldEnded s l .lostByReset) { s.lane l with
            basket := .empty, inFlight := none, answers := [], broken := true, auth := none, late := late }) ∧
      ((s.lane l).basket.state ≠ .closed → (s.lane l).basket.lines = [] → (s.lane l).basket.tenders = [] →
        ∃ t : State, exec (.laneReset l) s = .next t.settle ∧
          BasketEnded x t l { s.held with markers := s.held.markers.set l.val none } { s.lane l with
            basket := .empty, inFlight := none, answers := [], broken := true, auth := none, late := late })))

/-- OPEN in CLOSED with room in the journal (R72, R74, R94, R98): the next basket number, an empty basket in OPEN, and the
marker set; without room JOURNAL_FULL, no number used. The journal-full condition is then tested (R97, R185): JOURNAL_FULL
is raised where there is no room for one more, drops where there is, and stays while a dropped note holds it; nothing else
changes, of what the router holds neither, unless a gateway raises the flag (O12). There is room (R90, R94) while the used
cells, 69 for every present lane whose basket is not CLOSED and 69 more stay within 24,576, and the numbers left exceed the
number of those baskets. -/
def Obligations.OpenTakesAReservation : Prop :=
  (∀ (r : Request) (s : State), TillTakes s r.lane [.closed] →
    (s.hasRoom = true →
      ∃ (t : State) (n : Nat), exec (.openBasket r) s = .next t ∧
        n = (if 4294967295 ≤ s.held.baskets[r.lane.val] then 1 else s.held.baskets[r.lane.val] + 1) ∧
        t = journalTested { s with
          out := []
          held := { s.held with
            baskets := s.held.baskets.set r.lane.val n, markers := s.held.markers.set r.lane.val (some n) }
          lanes := lanesWith s r.lane { s.lane r.lane with
            basket := { Basket.empty with state := .opened }
            answers := (s.lane r.lane).answers ++
              [{ number := r.number, code := .ok, state := .opened, basket := n, contents := .none }] } }) ∧
    (s.hasRoom = false → exec (.openBasket r) s = .next (refusal s r .journalFull))) ∧
  (∀ (s : State) (taken : Nat),
    taken = (allLanes.filter fun l => decide (l.val < min s.start.straps.lanes 4 ∧ (s.lane l).basket.state ≠ .closed)).length →
    (s.hasRoom = true ↔ s.held.used + 69 * taken + 69 ≤ 24576 ∧ taken < 4294967295 - s.held.nextSeq))

/-- SCAN and WEIGH of an item with a record, neither blocked nor beyond a limit (R54, R56 to R60, R75): the item line at the
lock's headline, the promotion lines behind it, the total, and the lock where the item had none; nothing but the lane
changes. Refusals, in order (R56): UNKNOWN_ITEM with no record; BLOCKED; KIND of a lock of the other kind; LIMIT for a
quantity, an amount, a number of lines or a total outside its range. The lock is the basket's own, or for a first scan the
one the record would make (R54). The promotion lines (R58): with the item's live units and the scan's, one for each whole
group of the lock's multibuy beyond the live promotion lines, of the deduction with its sign turned, where that is above 0;
none for a WEIGHED item or without a multibuy. -/
def Obligations.ScanAndWeighAddLines : Prop :=
  (∀ (r : Request) (item q : Nat) (want : ItemKind) (x : ItemRecord) (k : Lock) (added : List Line) (s : State),
    TillTakes s r.lane [.opened] → s.items.find item = some x → x.blocked = false →
    k = (s.lane r.lane).basket.lockFor x → k.kind = want → 1 ≤ q →
    q ≤ (match want with | .unit => 99 | .weighed => 30000) →
    lineAmount want k.headline q ≤ 9999999 →
    added = { number := (s.lane r.lane).basket.lines.length + 1, item := k.item, kind := want, quantity := q
              headline := k.headline, amount := lineAmount want k.headline q, taxClass := k.taxClass
              voided := false, promo := false } ::
      (s.lane r.lane).basket.newPromos k q ((s.lane r.lane).basket.lines.length + 1) →
    (s.lane r.lane).basket.lines.length + added.length ≤ 64 →
    (s.lane r.lane).basket.total + sumAmounts added ≤ 99999999 →
    exec (priceRequest want r item q) s = .next { s with
      out := []
      lanes := lanesWith s r.lane (answered s r.lane
        { (s.lane r.lane).basket with
          locks := if ((s.lane r.lane).basket.lock k.item).isSome then (s.lane r.lane).basket.locks
            else (s.lane r.lane).basket.locks ++ [k]
          lines := (s.lane r.lane).basket.lines ++ added
          total := (s.lane r.lane).basket.total + sumAmounts added }
        r.number .ok (.lines ((s.lane r.lane).basket.total + sumAmounts added) added)) }) ∧
  (∀ (r : Request) (item q : Nat) (want : ItemKind) (s : State), TillTakes s r.lane [.opened] →
    (s.items.find item = none → exec (priceRequest want r item q) s = .next (refusal s r .unknownItem)) ∧
    (∀ x k, s.items.find item = some x → k = (s.lane r.lane).basket.lockFor x →
      (x.blocked = true → exec (priceRequest want r item q) s = .next (refusal s r .blocked)) ∧
      (x.blocked = false → k.kind ≠ want → exec (priceRequest want r item q) s = .next (refusal s r .kind)) ∧
      (∀ promos, x.blocked = false → k.kind = want →
        promos = (s.lane r.lane).basket.newPromos k q ((s.lane r.lane).basket.lines.length + 1) →
        (q < 1 ∨ (match want with | .unit => 99 | .weighed => 30000) < q ∨ 9999999 < lineAmount want k.headline q ∨
          64 < (s.lane r.lane).basket.lines.length + 1 + promos.length ∨
          99999999 < (s.lane r.lane).basket.total + lineAmount want k.headline q + sumAmounts promos) →
        exec (priceRequest want r item q) s = .next (refusal s r .limit)))) ∧
  (∀ (b : Basket) (x : ItemRecord),
    (∀ k, b.locks.find? (fun k => k.item == x.code) = some k → b.lockFor x = k) ∧
    (b.locks.find? (fun k => k.item == x.code) = none →
      b.lockFor x = {
        item := x.code, kind := x.kind, taxClass := x.taxClass, state := x.charge, headline := headline x.charge })) ∧
  (∀ (b : Basket) (k : Lock) (count number : Nat),
    (k.kind = .weighed ∨ k.state.multibuy = none → b.newPromos k count number = []) ∧
    (∀ m, k.kind = .unit → k.state.multibuy = some m → m.count * k.headline ≤ m.group →
      b.newPromos k count number = []) ∧
    (∀ m units groups, k.kind = .unit → k.state.multibuy = some m → m.group < m.count * k.headline →
      units = ((b.lines.filter fun l => l.item == k.item && !l.voided && !l.promo).map (·.quantity)).sum →
      groups = (units + count) / m.count -
        (b.lines.filter fun l => l.item == k.item && !l.voided && l.promo).length →
      (b.newPromos k count number).length = groups ∧
      ∀ i, i < groups → (b.newPromos k count number)[i]? = some {
        number := number + 1 + i, item := k.item, kind := .unit, quantity := m.count, headline := k.headline
        amount := (m.group : Int) - m.count * k.headline, taxClass := k.taxClass, voided := false, promo := true }))

/-- The pricing of a line (R52, R57): a headline is the price less the markdown, rounded half up; a count multiplies it, a
weight in grams multiplies it by the thousandth, rounded half up. Tax contents (R63): for a class whose non-voided lines sum
to T at a rate of r basis points, T × r / (10,000 + r) rounded half up; 0 where the sum or the rate is 0. -/
def Obligations.AmountsRoundHalfUp : Prop :=
  ((∀ p : PriceState, p.markdown ≤ 10000 →
    headline p ≤ p.price ∧ 20000 * (p.price - headline p) ≤ 2 * (p.price * p.markdown) + 10000 ∧
      2 * (p.price * p.markdown) < 20000 * (p.price - headline p) + 10000) ∧
  (∀ h q : Nat, lineAmount .unit h q = h * q) ∧
  (∀ h g : Nat, 2000 * lineAmount .weighed h g ≤ 2 * (h * g) + 1000 ∧
    2 * (h * g) < 2000 * lineAmount .weighed h g + 1000)) ∧
  (∀ T r : Nat,
    2 * (10000 + r) * taxContent T r ≤ 2 * (T * r) + (10000 + r) ∧
      2 * (T * r) < 2 * (10000 + r) * taxContent T r + (10000 + r) ∧ taxContent 0 r = 0 ∧ taxContent T 0 = 0)

/-- A VOID the common tests let through is refused with NO_LINE when the named line is not in the list of the basket as it
stands, when it is already voided, or when it is a promotion line; of any other line it is not (R61). -/
def Obligations.VoidNamesALiveItemLine : Prop :=
  ∀ (r : Request) (number : Nat) (s : State), TillTakes s r.lane [.opened] → r.confirm = 251 →
    ((∀ l, (s.lane r.lane).basket.lines.find? (fun x => x.number == number) = some l → l.voided = true ∨ l.promo = true) →
      exec (.voidLine r number) s = .next (refusal s r .noLine)) ∧
    (∀ l, (s.lane r.lane).basket.lines.find? (fun x => x.number == number) = some l → l.voided = false → l.promo = false →
      exec (.voidLine r number) s ≠ .next (refusal s r .noLine))

/-- VOID with its confirmation of a live item line (R62, R71, R75): the line and the promotion lines its leaving undoes are
marked VOIDED, and the total falls by their amounts; nothing but the lane changes. A total that this would raise above
99,999,999 refuses the VOID with LIMIT (R62). What goes with the line is the promotion cascade (R62): of the item's live
promotion lines as many stay, the oldest, as its units less the line's make whole groups; none goes with a WEIGHED line or
without a multibuy in the lock. -/
def Obligations.VoidTakesLinesOut : Prop :=
  (∀ (r : Request) (number : Nat) (l : Line) (gone : List Line) (s : State), TillTakes s r.lane [.opened] →
    r.confirm = 251 → (s.lane r.lane).basket.lines.find? (fun x => x.number == number) = some l → l.voided = false →
    l.promo = false → gone = l :: (s.lane r.lane).basket.cascade l →
    (s.lane r.lane).basket.total - sumAmounts gone ≤ 99999999 →
    exec (.voidLine r number) s = .next { s with
      out := []
      lanes := lanesWith s r.lane (answered s r.lane
        { (s.lane r.lane).basket with
          lines := (s.lane r.lane).basket.lines.map fun x =>
            if gone.any (fun g => g.number == x.number) then { x with voided := true } else x
          total := (s.lane r.lane).basket.total - sumAmounts gone }
        r.number .ok (.voids ((s.lane r.lane).basket.total - sumAmounts gone) (gone.map (·.number)))) }) ∧
  (∀ (r : Request) (number : Nat) (l : Line) (gone : List Line) (s : State), TillTakes s r.lane [.opened] →
    r.confirm = 251 → (s.lane r.lane).basket.lines.find? (fun x => x.number == number) = some l → l.voided = false →
    l.promo = false → gone = l :: (s.lane r.lane).basket.cascade l →
    99999999 < (s.lane r.lane).basket.total - sumAmounts gone →
    exec (.voidLine r number) s = .next (refusal s r .limit)) ∧
  (∀ (b : Basket) (l : Line) (promos : List Line), promos = b.lines.filter (fun x => x.item == l.item && !x.voided && x.promo) →
    (l.kind = .weighed ∨ (∀ k, b.locks.find? (fun k => k.item == l.item) = some k → k.state.multibuy = none) →
      b.cascade l = []) ∧
    (∀ k m units, l.kind = .unit → b.locks.find? (fun k => k.item == l.item) = some k → k.state.multibuy = some m →
      units = ((b.lines.filter fun x => x.item == l.item && !x.voided && !x.promo).map (·.quantity)).sum →
      promos = promos.take ((units - l.quantity) / m.count) ++ (b.cascade l).reverse))

/-- ASK (R76): in any basket state, in either mode and while not READY, it reads the record as it stands and changes nothing
but the answers; UNKNOWN_ITEM where there is no record; BUSY while a CARD is in flight. -/
def Obligations.AskReadsTheRecord : Prop :=
  ∀ (r : Request) (item : Nat) (s : State), s.start.powered = true → s.laneTakes r.lane = true →
    ((s.lane r.lane).inFlight ≠ none → exec (.ask r item) s = .next (refusal s r .busy)) ∧
    ((s.lane r.lane).inFlight = none →
      (s.items.find item = none → exec (.ask r item) s = .next (refusal s r .unknownItem)) ∧
      (∀ x, s.items.find item = some x →
        exec (.ask r item) s = .next { s with
          out := []
          lanes := lanesWith s r.lane (answered s r.lane (s.lane r.lane).basket r.number .ok
            (.item (x.kind == .weighed) x.pending.isSome x.blocked (headline x.charge) (headline x.book))) }))

/-- /-- TOTAL and RESUME (R63, R64, R77): TOTALLED with the four tax contents worked out and kept; OPEN again with them
discarded. The tax content of each class is that of the sum of the amounts of its lines that are not voided, promotion lines
with the others, at the class's own rate of the profile; how it is rounded is in O31. -/ -/
def Obligations.TotalAndResume : Prop :=
  (∀ (r : Request) (s : State),
    (TillTakes s r.lane [.opened] →
      exec (.total r) s = .next { s with
        out := []
        lanes := lanesWith s r.lane (answered s r.lane
          { (s.lane r.lane).basket with
            state := .totalled, tax := some ((s.lane r.lane).basket.taxContents s.start.profile.taxRates) }
          r.number .ok
          (.totals (s.lane r.lane).basket.total ((s.lane r.lane).basket.taxContents s.start.profile.taxRates))) }) ∧
    (TillTakes s r.lane [.totalled] →
      exec (.resume r) s = .next { s with
        out := []
        lanes := lanesWith s r.lane (answered s r.lane { (s.lane r.lane).basket with state := .opened, tax := none }
          r.number .ok (.total (s.lane r.lane).basket.total)) })) ∧
  (∀ (b : Basket) (rates : Vector Nat 4) (sum : Fin 4 → Nat),
    (∀ c, (sum c : Int) = ((b.lines.filter fun l => decide (l.voided = false ∧ l.taxClass = c)).map fun l => l.amount).sum) →
    b.taxContents rates = {
      c0 := taxContent (sum 0) rates[0], c1 := taxContent (sum 1) rates[1]
      c2 := taxContent (sum 2) rates[2], c3 := taxContent (sum 3) rates[3] })

/-- CASH (R65, R78): an amount the rule admits joins the tenders; the basket is PAID with the change due when the tendered
sum reaches the total, else TENDERING with the amount remaining. Any other amount is answered LIMIT. Cash above 0 on a
basket with nothing remaining is taken, and is all change (the model's choice, notes/assumptions/57.md). -/
def Obligations.CashTenders : Prop :=
  ∀ (r : Request) (amount : Nat) (left : Int) (b : Basket) (s : State), TillTakes s r.lane [.totalled, .tendering] →
    b = (s.lane r.lane).basket → left = b.remaining →
    ((b.tenders.length = 3 ∧ (amount : Int) < left) ∨ (¬ (1 ≤ amount ∧ amount ≤ 99999999) ∧ ¬ (amount = 0 ∧ left = 0)) →
      exec (.cash r amount) s = .next (refusal s r .limit)) ∧
    (¬ (b.tenders.length = 3 ∧ (amount : Int) < left) → (1 ≤ amount ∧ amount ≤ 99999999) ∨ (amount = 0 ∧ left = 0) →
      ((amount : Int) < left →
        exec (.cash r amount) s = .next { s with
          out := []
          lanes := lanesWith s r.lane (answered s r.lane
            { b with tenders := b.tenders ++ [.cash amount], state := .tendering }
            r.number .ok (.remaining (left - amount))) }) ∧
      (left ≤ (amount : Int) →
        exec (.cash r amount) s = .next { s with
          out := []
          lanes := lanesWith s r.lane (answered s r.lane
            { b with tenders := b.tenders ++ [.cash amount], state := .paid, change := some (amount - left) }
            r.number .ok (.change (amount - left))) }))

/-- CARD (R65, R79, R82, R84): with a gateway that is a peer, AUTH_WAIT, an auth entry of route LINE and an AUTHQ for the
gateway, the answer held back; with none, or while SILENCED, the stand-in decision at once: approved within the floor limit
as a tender that marks the basket, PAID with no change where it is all that remains and else TENDERING, or declined; an
amount the rule refuses is answered LIMIT. At the gateway itself (R79, R133, R134): route INTERNAL, a router entry with the
lowest free tag and an OFFICE_AUTH behind the AUTH queue (stated where the carrier link is busy); with the uplink not up or
no tag free the entry ends at once with the stand-in decision (R83). -/
def Obligations.CardGoesToGatewayOrStandsIn : Prop :=
  (∀ (r : Request) (amount : Nat) (b : Basket) (s : State), TillTakes s r.lane [.totalled, .tendering] →
    b = (s.lane r.lane).basket →
    ((b.tenders.length = 3 ∧ (amount : Int) < b.remaining) ∨ amount = 0 ∨ b.remaining < (amount : Int) →
      exec (.card r amount) s = .next (refusal s r .limit)) ∧
    (¬ (b.tenders.length = 3 ∧ (amount : Int) < b.remaining) → 1 ≤ amount → (amount : Int) ≤ b.remaining →
      (∀ g, s.roster.gateway = some g → g ≠ s.self → s.silenced = false → s.slot 0 = .free → s.line.kept = [] →
        exec (.card r amount) s = .next { s with
          out := []
          lanes := lanesWith s r.lane { s.lane r.lane with
            inFlight := some r.number
            basket := { b with state := .authWait }
            auth := some { basket := s.held.baskets[r.lane.val], amount := amount, start := s.clock.now, route := .line
                           authq := .produced } }
          line := { s.line with slots := s.line.slots.set 0 (.held .waiting
            { dest := some g, payload := .authq s.self r.lane s.held.baskets[r.lane.val] amount, applied := false }
            0 false) } }) ∧
      (s.roster.gateway = none ∨ s.silenced = true →
        (amount ≤ s.start.profile.floorLimit →
          exec (.card r amount) s = .next { s with
            out := []
            lanes := lanesWith s r.lane (answered s r.lane (cardTaken b amount true) r.number .approvedStandin
              (cardContents b amount)) }) ∧
        (s.start.profile.floorLimit < amount →
          exec (.card r amount) s = .next { s with
            out := []
            lanes := lanesWith s r.lane (answered s r.lane
              { b with state := if b.tenders = [] then .totalled else .tendering }
              r.number .declinedNoAnswer (.remaining b.remaining)) })))) ∧
  (∀ (r : Request) (amount : Nat) (b : Basket) (s : State), TillTakes s r.lane [.totalled, .tendering] →
    b = (s.lane r.lane).basket → ¬ (b.tenders.length = 3 ∧ (amount : Int) < b.remaining) → 1 ≤ amount →
    (amount : Int) ≤ b.remaining → s.roster.gateway = some s.self → s.silenced = false →
    (∀ f ∈ s.router.authFlows, ¬ (f.origin = s.self ∧ f.lane = r.lane ∧ f.basket = s.held.baskets[r.lane.val])) →
    (∀ tag : Nat, s.uplinkUp = true → s.router.linkFree = false → 1 ≤ tag → tag ≤ 64 →
      (∀ f ∈ s.router.authFlows, f.tag ≠ tag) → (∀ k, 1 ≤ k → k < tag → ∃ f ∈ s.router.authFlows, f.tag = k) →
      exec (.card r amount) s = .next { s with
        out := []
        lanes := lanesWith s r.lane { s.lane r.lane with
          inFlight := some r.number
          basket := { b with state := .authWait }
          auth := some { basket := s.held.baskets[r.lane.val], amount := amount, start := s.clock.now, route := .internal
                         authq := .done } }
        router := { s.router with
          authFlows := s.router.authFlows ++
            [{ tag := tag, origin := s.self, lane := r.lane, basket := s.held.baskets[r.lane.val], amount := amount
               made := s.clock.now, sent := none }]
          authQueue := s.router.authQueue ++
            [{ tag := tag, origin := s.self, lane := r.lane, basket := s.held.baskets[r.lane.val]
               amount := amount }] } }) ∧
    (s.uplinkUp = false ∨ (∀ k, 1 ≤ k → k ≤ 64 → ∃ f ∈ s.router.authFlows, f.tag = k) → s.slot 0 = .free → s.slot 1 = .free →
      s.line.kept = [] →
      (amount ≤ s.start.profile.floorLimit →
        exec (.card r amount) s = .next { s with
          out := []
          lanes := lanesWith s r.lane { answered s r.lane (cardTaken b amount true) r.number .approvedStandin
            (cardContents b amount) with auth := none } }) ∧
      (s.start.profile.floorLimit < amount →
        exec (.card r amount) s = .next { s with
          out := []
          lanes := lanesWith s r.lane { answered s r.lane
            { b with state := if b.tenders = [] then .totalled else .tendering }
            r.number .declinedNoAnswer (.remaining b.remaining) with auth := none } })))

/-- AUTH_TIMER_EXPIRY (R84, R85, R86): after 15 s the stand-in decision is taken, the entry ends and joins the late list
with that decision, the ninth pushing out the oldest. TAKE_AUTHA (R83, R87): a matching APPROVED adds the card tender, the
basket PAID with no change where it is all that remains and else TENDERING (R65), as it is with an approved stand-in;
DECLINED takes the basket back; an answer that matches no entry and no late entry is dropped. What waits elsewhere is
settled. An AUTHA that names no open entry and no late entry is dropped (R87). LATE_ENTRY_EXPIRY (R86): the oldest late
entry leaves 60 s after it joined. An AUTHQ that is CARRIED leaves the entry waiting for its answer; one whose fourth
attempt is unheard ends it with the stand-in decision, the entry joining the late list (R82). DECLINED_NO_ROUTE ends the
entry with the stand-in decision and no late entry (R83). An AUTHA for the first late entry of its basket takes the entry
out; where the two decisions differ in kind a LATE_AUTH record is written the journal pressure works out anew and the
journal-full condition is tested (R23, R87, R97; stated where the note has room). -/
def Obligations.AuthEntriesAndLateEntriesEnd : Prop :=
  (∀ (l : Lane) (e : AuthEntry) (n : Nat) (b : Basket) (late : List LateEntry) (s : State), AuthWaits s l e n →
    b = (s.lane l).basket → e.start + 15000 ≤ s.clock.now → (e.amount : Int) ≤ b.remaining →
    late = ((s.lane l).late ++ [lateOf e s.clock.now
      (if e.amount ≤ s.start.profile.floorLimit then .approvedStandin else .declinedNoAnswer)]).drop
        ((s.lane l).late.length + 1 - 8) →
    (e.amount ≤ s.start.profile.floorLimit →
      exec (.authTimerExpiry l) s = .next { s with
        out := []
        lanes := lanesWith s l { answered s l (cardTaken b e.amount true) n .approvedStandin (cardContents b e.amount) with
          inFlight := none, auth := none, late := late } }) ∧
    (s.start.profile.floorLimit < e.amount →
      exec (.authTimerExpiry l) s = .next { s with
        out := []
        lanes := lanesWith s l { answered s l
          { b with state := if b.tenders = [] then .totalled else .tendering }
          n .declinedNoAnswer (.remaining b.remaining) with inFlight := none, auth := none, late := late } })) ∧
  (∀ (l : Lane) (g : Station) (e : AuthEntry) (n : Nat) (b : Basket) (rest : List Received) (d : Decision) (s : State),
    AuthWaits s l e n → b = (s.lane l).basket →
    s.line.authInbox = { sender := g, payload := .autha l e.basket d } :: rest →
    (d = .approved → (e.amount : Int) ≤ b.remaining →
      exec .takeAutha s = .next (State.settle { s with
        out := [], line := { s.line with authInbox := rest }
        lanes := lanesWith s l { answered s l (cardTaken b e.amount false) n .approved (cardContents b e.amount) with
          inFlight := none, auth := none } })) ∧
    (d = .declined →
      exec .takeAutha s = .next (State.settle { s with
        out := [], line := { s.line with authInbox := rest }
        lanes := lanesWith s l { answered s l
          { b with state := if b.tenders = [] then .totalled else .tendering }
          n .declined (.remaining b.remaining) with inFlight := none, auth := none } }))) ∧
  (∀ (l : Lane) (g : Station) (basket : Nat) (rest : List Received) (d : Decision) (s : State), s.start.powered = true →
    s.line.authInbox = { sender := g, payload := .autha l basket d } :: rest →
    (∀ e, (s.lane l).auth = some e → e.basket ≠ basket) → (∀ e ∈ (s.lane l).late, e.basket ≠ basket) →
    exec .takeAutha s = .next (State.settle { s with out := [], line := { s.line with authInbox := rest } })) ∧
  (∀ (l : Lane) (e : LateEntry) (es : List LateEntry) (s : State), s.start.powered = true → (s.lane l).late = e :: es →
    e.joined + 60000 ≤ s.clock.now →
    exec (.lateEntryExpiry l) s = .next { s with out := [], lanes := lanesWith s l { s.lane l with late := es } }) ∧
  (∀ (s : State) (i : Fin 11) (f : Frame) (l : Lane) (e : AuthEntry) (n : Nat) (b : Basket) (late : List LateEntry),
    s.start.powered = true → i ∈ [0, 1] → s.slot i = .held .sending f 3 false →
    (∀ j, (s.slot j).isSending = true → j = i) → (∀ j ∈ [0, 1], j ≠ i → s.slot j = .free) →
    f.payload = .authq s.self l e.basket e.amount → (s.lane l).auth = some e → e.route = .line →
    (s.lane l).inFlight = some n → b = (s.lane l).basket → b.state = .authWait → s.line.kept = [] →
    s.line.beaconKept = false → s.line.alone = false → s.line.sfc < 88 → s.line.hfc < 96 →
    (exec (.attemptEnd (.sent true false)) s = .next (State.settle { s with
      out := [], lanes := lanesWith s l { s.lane l with auth := some { e with authq := .done } }
      line := { s.line with slots := s.line.slots.set i.val .free, sfc := s.line.sfc - 1 } })) ∧
    ((e.amount : Int) ≤ b.remaining →
      late = ((s.lane l).late ++ [lateOf e s.clock.now
        (if e.amount ≤ s.start.profile.floorLimit then .approvedStandin else .declinedNoAnswer)]).drop
          ((s.lane l).late.length + 1 - 8) →
      (e.amount ≤ s.start.profile.floorLimit →
        exec (.attemptEnd (.sent false false)) s = .next (State.settle { s with
          out := []
          lanes := lanesWith s l { answered s l (cardTaken b e.amount true) n .approvedStandin (cardContents b e.amount) with
            inFlight := none, auth := none, late := late }
          line := { s.line with slots := s.line.slots.set i.val .free, sfc := s.line.sfc + 8 } })) ∧
      (s.start.profile.floorLimit < e.amount →
        exec (.attemptEnd (.sent false false)) s = .next (State.settle { s with
          out := []
          lanes := lanesWith s l { answered s l
            { b with state := if b.tenders = [] then .totalled else .tendering }
            n .declinedNoAnswer (.remaining b.remaining) with inFlight := none, auth := none, late := late }
          line := { s.line with slots := s.line.slots.set i.val .free, sfc := s.line.sfc + 8 } })))) ∧
  (∀ (l : Lane) (g : Station) (e : AuthEntry) (n : Nat) (b : Basket) (rest : List Received) (s : State),
    AuthWaits s l e n → b = (s.lane l).basket →
    s.line.authInbox = { sender := g, payload := .autha l e.basket .declinedNoRoute } :: rest →
    (e.amount ≤ s.start.profile.floorLimit → (e.amount : Int) ≤ b.remaining →
      exec .takeAutha s = .next (State.settle { s with
        out := [], line := { s.line with authInbox := rest }
        lanes := lanesWith s l { answered s l (cardTaken b e.amount true) n .approvedStandin (cardContents b e.amount) with
          inFlight := none, auth := none } })) ∧
    (s.start.profile.floorLimit < e.amount →
      exec .takeAutha s = .next (State.settle { s with
        out := [], line := { s.line with authInbox := rest }
        lanes := lanesWith s l { answered s l
          { b with state := if b.tenders = [] then .totalled else .tendering }
          n .declinedNoAnswer (.remaining b.remaining) with inFlight := none, auth := none } }))) ∧
  (∀ (l : Lane) (g : Station) (e : LateEntry) (before after : List LateEntry) (d : Decision) (rest : List Received)
    (s : State), s.start.powered = true → s.lanePresent l = true →
    s.line.authInbox = { sender := g, payload := .autha l e.basket d } :: rest →
    (∀ x, (s.lane l).auth = some x → x.basket ≠ e.basket) → (s.lane l).late = before ++ e :: after →
    (∀ x ∈ before, x.basket ≠ e.basket) →
    (sameClass e.decision d = true →
      exec .takeAutha s = .next (State.settle { s with
        out := [], line := { s.line with authInbox := rest }
        lanes := lanesWith s l { s.lane l with late := before ++ after } })) ∧
    (∀ held, sameClass e.decision d = false → s.noteFits = true →
      held = { s.held with
        records := s.held.records ++ [{
          seq := s.held.nextSeq, inFlight := false
          content := .lateAuth s.self l e.basket s.stamp e.amount e.decision d }]
        nextSeq := s.held.nextSeq + 1 } →
      ∃ t : State, exec .takeAutha s = .next t.settle ∧ IsPressure s held.used t.roster.pressure ∧
        t = journalTested { s with
          out := [], line := { s.line with authInbox := rest }, held := held
          lanes := lanesWith s l { s.lane l with late := before ++ after }
          roster := { s.roster with pressure := t.roster.pressure } }))

/-- CLOSE of a PAID basket (R81, R91, R95): the SALE record in one commit, answered with its sequence number. The journal
pressure is worked out anew (R23) and the journal-full condition tested, whichever way the basket ends (R97, as O29 has it);
what the new figure of used cells calls for is settled. CANCEL (R71, R80): a basket with lines, with its confirmation,
leaves a CANCELLED record; without it PROTECTION; an empty OPEN basket closes with no record and no number used; a CARD in
flight is answered CANCELLED, its entry joins the late list with decision NONE, with the amount remaining (R73), and CANCEL
is answered OK behind it; that a CANCEL with no record answers sequence number 0 is the model's reading
(notes/assumptions/25.md). -/
def Obligations.CloseAndCancelEndTheBasket : Prop :=
  (∀ (r : Request) (s : State), TillTakes s r.lane [.paid] →
    ∃ t : State, exec (.close r) s = .next t.settle ∧
      BasketEnded s t r.lane (heldEnded s r.lane .sale)
        (laneEnded s r.lane ((s.lane r.lane).answers ++ [endAnswer r.number s.held.nextSeq]))) ∧
  (∀ (r : Request) (s : State),
    (TillTakes s r.lane [.opened, .totalled] → (s.lane r.lane).basket.lines ≠ [] →
      (r.confirm + 10 ≠ 255 → exec (.cancel r) s = .next (refusal s r .protection)) ∧
      (r.confirm = 245 →
        ∃ t : State, exec (.cancel r) s = .next t.settle ∧
          BasketEnded s t r.lane (heldEnded s r.lane .cancelled)
            (laneEnded s r.lane ((s.lane r.lane).answers ++ [endAnswer r.number s.held.nextSeq])))) ∧
    (TillTakes s r.lane [.opened, .totalled] → (s.lane r.lane).basket.lines = [] →
      ∃ t : State, exec (.cancel r) s = .next t.settle ∧
        BasketEnded s t r.lane { s.held with markers := s.held.markers.set r.lane.val none }
          (laneEnded s r.lane ((s.lane r.lane).answers ++ [endAnswer r.number 0]))) ∧
    (∀ e n, AuthWaits s r.lane e n → s.laneTakes r.lane = true → s.laneMode r.lane = .till → s.notReady = false →
      (s.lane r.lane).late.length < 8 →
      exec (.cancel r) s = .next { s with
        out := []
        lanes := lanesWith s r.lane { s.lane r.lane with
          inFlight := none, auth := none
          basket := { (s.lane r.lane).basket with
            state := if (s.lane r.lane).basket.tenders = [] then .totalled else .tendering }
          late := (s.lane r.lane).late ++ [lateOf e s.clock.now .none]
          answers := (s.lane r.lane).answers ++
            [{ number := n, code := .cancelled
               state := if (s.lane r.lane).basket.tenders = [] then .totalled else .tendering
               basket := s.held.baskets[r.lane.val]
               contents := .remaining (s.lane r.lane).basket.remaining },
             { number := r.number, code := .ok
               state := if (s.lane r.lane).basket.tenders = [] then .totalled else .tendering
               basket := s.held.baskets[r.lane.val], contents := .sequence 0 }] } }))

/-- TAKE_JPULL of a journal with records (R99, R100): a new batch for the sender, its oldest records up to the count
IN_FLIGHT (0 and above 16 are taken as 16), the cursor at the first segment of the oldest, and that segment placed in slot
9. The outcome of the segment at the cursor (R100): CARRIED, the cursor moves on and the next segment is placed, of the same
record or of the next, the sent-through number becoming that of a record whose last segment it was; after the batch's last
segment nothing is placed. UNHEARD at the fourth attempt: the batch stops sending, and records above the sent-through number
revert to HELD. TAKE_JPULL of an empty journal (R99): one JSEG marked EMPTY, whose outcome changes nothing (R100). TAKE_JREL
(R101): from the puller it removes, from the oldest end, the IN_FLIGHT records at or below both its number and the
sent-through number, stopping at the first that is not; the rest revert to HELD, the batch ends, and the journal pressure is
the new figure of used cells or that of a PRESENT peer, whichever is higher (R23); the journal-full condition is tested, and
JOURNAL_FULL drops where there is room again and no dropped note holds it (R97). From any other station it changes nothing.
What the new figure of used cells calls for is settled. -/
def Obligations.JournalBatchesStartAndRelease : Prop :=
  (∀ (s : State) (n : Station) (count k : Nat) (oldest : JournalRecord) (more : List JournalRecord) (rest : List Received)
    (held : HeldMemory), s.start.powered = true → s.line.journalInbox = { sender := n, payload := .jpull count } :: rest →
    s.held.records = oldest :: more → s.silenced = false → s.slot 9 = .free → s.line.kept = [] →
    k = (if 1 ≤ count ∧ count ≤ 16 then count else 16) →
    held = { s.held with records :=
      ((s.held.records.take k).map fun r => { r with inFlight := true }) ++
        ((s.held.records.drop k).map fun r => { r with inFlight := false }) } →
    exec .takeJpull s = .next { s with
      out := [], held := held
      journal := some { puller := .peer n, cursor := some (oldest.seq, 0), sentThrough := none }
      line := { s.line with
        journalInbox := rest
        slots := s.line.slots.set 9 (placed (some n) (.jseg (segment { s with held := held } oldest 0))) } }) ∧
  (∀ (s : State) (f : Frame) (u : Nat) (n : Station) (g : Jseg) (b : OwnerBatch), s.start.powered = true →
    s.slot 9 = .held .sending f u false → (∀ j, (s.slot j).isSending = true → j = 9) → s.line.kept = [] →
    s.line.beaconKept = false → s.line.alone = false → f.dest = some n → f.payload = .jseg g → g.empty = false →
    s.journal = some b → b.puller = .peer n → b.cursor = some (g.seq, g.index) →
    (s.line.sfc < 256 →
      (∀ r, (s.held.records.filter (·.inFlight)).find? (fun r => r.seq == g.seq) = some r → g.lastSeg = false →
        exec (.attemptEnd (.sent true false)) s = .next (State.settle (attemptOver
          { s with journal := some { b with cursor := some (g.seq, g.index + 1) } } 9
          (placed (some n) (.jseg (segment s r (g.index + 1)))) (s.line.sfc - 1)))) ∧
      (∀ r, (s.held.records.filter (·.inFlight)).find? (fun r => decide (g.seq < r.seq)) = some r → g.lastSeg = true →
        exec (.attemptEnd (.sent true false)) s = .next (State.settle (attemptOver
          { s with journal := some { b with cursor := some (r.seq, 0), sentThrough := some g.seq } } 9
          (placed (some n) (.jseg (segment s r 0))) (s.line.sfc - 1)))) ∧
      ((∀ r ∈ s.held.records, r.inFlight = true → r.seq ≤ g.seq) → g.lastSeg = true →
        exec (.attemptEnd (.sent true false)) s = .next (State.settle (attemptOver
          { s with journal := some { b with cursor := none, sentThrough := some g.seq } } 9 .free (s.line.sfc - 1))))) ∧
    (s.line.sfc < 248 → u = 3 →
      exec (.attemptEnd (.sent false false)) s = .next (State.settle (attemptOver { s with
        journal := some { b with cursor := none }
        held := { s.held with records := s.held.records.map fun r =>
          { r with inFlight := r.inFlight && decide (∃ t, b.sentThrough = some t ∧ r.seq ≤ t) } } } 9 .free
        (s.line.sfc + 8))))) ∧
  (∀ (s : State) (n : Station) (count : Nat) (rest : List Received), s.start.powered = true →
    s.line.journalInbox = { sender := n, payload := .jpull count } :: rest → s.held.records = [] → s.silenced = false →
    s.slot 9 = .free → s.line.kept = [] →
    exec .takeJpull s = .next { s with
      out := [], journal := some { puller := .peer n, cursor := none, sentThrough := none }
      line := { s.line with
        journalInbox := rest
        slots := s.line.slots.set 9 (placed (some n)
          (.jseg { empty := true, lastSeg := false, lastRecord := false, seq := 0, index := 0, data := [] })) } }) ∧
  (∀ (s : State) (f : Frame) (n : Station) (g : Jseg), s.start.powered = true → s.slot 9 = .held .sending f 3 false →
    (∀ j, (s.slot j).isSending = true → j = 9) → s.line.kept = [] → s.line.beaconKept = false → s.line.alone = false →
    f.dest = some n → f.payload = .jseg g → g.empty = true → s.line.sfc < 248 →
    ∀ carried : Bool, exec (.attemptEnd (.sent carried false)) s = .next (State.settle (attemptOver s 9 .free
      (if carried = true then s.line.sfc - 1 else s.line.sfc + 8)))) ∧
  (∀ (s : State) (n : Station) (seq : Nat) (rest : List Received), s.start.powered = true →
    s.line.journalInbox = { sender := n, payload := .jrel seq } :: rest →
    (∀ b t held, s.journal = some b → b.puller = .peer n → b.sentThrough = some t → s.slot 9 = .free → s.line.kept = [] →
      held = { s.held with records :=
        (s.held.records.dropWhile fun r => r.inFlight && decide (r.seq ≤ seq) && decide (r.seq ≤ t)).map fun r =>
          { r with inFlight := false } } →
      ∃ u : State, exec .takeJrel s = .next u.settle ∧ IsPressure s held.used u.roster.pressure ∧
        u = journalTested { s with
          out := [], journal := none, line := { s.line with journalInbox := rest }, held := held
          roster := { s.roster with pressure := u.roster.pressure } }) ∧
    ((s.journal = none ∨ ∃ b, s.journal = some b ∧ b.puller ≠ .peer n) →
      exec .takeJrel s = .next (State.settle { s with out := [], line := { s.line with journalInbox := rest } })))

/-- The release that ends a batch (R103, R162, R166) names the taken-through number, or 0 if head office has taken none of
the batch. Of a batch of this station's own journal: the records it removes leave it, oldest first, the rest revert to HELD,
the drain record counts exactly those removed (R164), and the journal pressure is worked out anew (R23) and the journal-full
condition tested (R97). Of a peer's: a JREL goes to it in slot 8, and the collected records it names, no others (the model's
choice, notes/assumptions/78.md), are noted with their cells. Once it is CARRIED, and a batch of that station is in hand,
that batch will show what it removed (R101): the records below the oldest that the journal shows, all of them where it is
empty; the drain record counts those and the note goes. With no such batch in hand nothing will show it, and the records
named count at once (the model's choice, notes/assumptions/66.md). A JREL that ends unheard leaves the records there, and is
forgotten (R166); the end of one that is not noted, of number 0 or of an exchange given up, counts nothing (R162, R171).
Either way a JPULL kept behind it takes slot 8. -/
def Obligations.ReleasedRecordsLeaveTheJournal : Prop :=
  (∀ (s : State) (b : Batch) (o : OwnerBatch) (t m : Nat) (gone : List JournalRecord), b.target = s.self →
    s.journal = some o → o.puller = .self → o.sentThrough = some t → s.slot 9 = .free → s.line.kept = [] →
    m = (if ∃ c ∈ b.collected, c.seq ≤ b.taken then b.taken else 0) →
    gone = s.held.records.takeWhile (fun r => r.inFlight && decide (r.seq ≤ m) && decide (r.seq ≤ t)) →
    ∃ u : State, u = s.release b ∧
      u.held.records = (s.held.records.drop gone.length).map (fun r => { r with inFlight := false }) ∧
      u.night.drain[b.target.val] = { s.night.drain[b.target.val] with
        records := s.night.drain[b.target.val].records + gone.length
        cells := s.night.drain[b.target.val].cells + ((gone.map fun r => r.content.cells).foldl (· + ·) 0) } ∧
      (∀ n : Station, n ≠ b.target → u.night.drain[n.val] = s.night.drain[n.val]) ∧
      IsPressure s u.held.used u.roster.pressure ∧
      u = journalTested { s with
        journal := none, held := { s.held with records := u.held.records }
        roster := { s.roster with pressure := u.roster.pressure }
        night := { s.night with drain := u.night.drain } }) ∧
  (∀ (s : State) (b : Batch), b.target ≠ s.self → s.slot 8 = .free → s.line.kept = [] → s.silenced = false →
    ((∃ c ∈ b.collected, c.seq ≤ b.taken) →
      s.release b = { s with
        line := { s.line with slots := s.line.slots.set 8 (placed (some b.target) (.jrel b.taken)) }
        night := { s.night with releases := s.night.releases ++ [{
          station := b.target, seq := b.taken, carried := false
          records := (b.collected.filter fun c => c.seq ≤ b.taken).map fun c => (c.seq, c.data.length / 32) }] } }) ∧
    ((∀ c ∈ b.collected, b.taken < c.seq) →
      s.release b = { s with
        line := { s.line with slots := s.line.slots.set 8 (placed (some b.target) (.jrel 0)) } })) ∧
  (∀ (s t : State) (slot8 : Slot) (f : Frame) (n : Station) (q : Nat), s.start.powered = true →
    s.slot 8 = .held .sending f 3 false → (∀ j, (s.slot j).isSending = true → j = 8) → f.dest = some n →
    f.payload = .jrel q → s.line.beaconKept = false → s.line.alone = false → s.line.sfc < 248 →
    (s.line.kept = [] ∧ slot8 = .free) ∨
      (∃ g, s.line.kept = [.frame g] ∧ g.payload.owner = .journal ∧ slot8 = .held .waiting g 0 false) →
    t = { s with line := { s.line with kept := [] } } →
    (∀ (r : Release) (before after : List Release), s.night.releases = before ++ r :: after → r.station = n → r.seq = q →
      (∀ x ∈ before, x.station ≠ n ∨ x.seq ≠ q) →
      (∀ b, s.night.batch = some b → b.target = n →
        exec (.attemptEnd (.sent true false)) s = .next (State.settle (attemptOver { t with
          night := { s.night with releases := { r with carried := true } :: (before ++ after) } } 8 slot8
          (s.line.sfc - 1)))) ∧
      ((∀ b, s.night.batch = some b → b.target ≠ n) →
        exec (.attemptEnd (.sent true false)) s = .next (State.settle (attemptOver { t with
          night := Night.releasesShown { s.night with releases := { r with carried := true } :: (before ++ after) } n none }
          8 slot8 (s.line.sfc - 1)))) ∧
      exec (.attemptEnd (.sent false false)) s = .next (State.settle (attemptOver { t with
        night := { s.night with releases := before ++ after } } 8 slot8 (s.line.sfc + 8)))) ∧
    ((∀ x ∈ s.night.releases, x.station ≠ n ∨ x.seq ≠ q) →
      ∀ carried : Bool, exec (.attemptEnd (.sent carried false)) s = .next (State.settle (attemptOver t 8 slot8
        (if carried = true then s.line.sfc - 1 else s.line.sfc + 8))))) ∧
  (∀ (x : Night) (n : Station) (oldest : Option Nat) (gone : List (Nat × Nat)),
    gone = (((x.releases.filter fun r => r.station == n && r.carried).map (·.records)).flatten.filter fun k =>
      match oldest with | some q => decide (k.1 < q) | none => true) →
    x.releasesShown n oldest = { x with
      releases := x.releases.filter fun r => !(r.station == n && r.carried)
      drain := x.drain.set n.val { x.drain[n.val] with
        records := x.drain[n.val].records + gone.length
        cells := x.drain[n.val].cells + (gone.map (·.2)).foldl (· + ·) 0 } })

/-- A label's target and whether it needs updating are as R106 has them. The head of the queue is sent (R107, R110): with no
exchange under way and the controller not held, its label is AWAITING and the UPDATE carries its target as it stands, to be
answered within 120 ms. LABEL_ACK of the exchange under way (R111): the record takes what the UPDATE carried, the battery
class and the contact, its attempts are 0, and it is CURRENT where it no longer needs updating, else QUEUED at the tail; the
next head of the queue is then taken (R110). Any other radio id changes nothing. The confirmation check of its item comes
before that: where this station is outstanding on a pending increase and every label bound here to the item, and there is
one, shows it and is not FAULTED, a SHOWN is produced for slots 4 and 5 (R36, R115); else nothing. Produced with the alone
flag set, or while SILENCED, it is applied at once, and goes out as one already applied, or is deferred (R33, R36, R37).
UPDATE_TIMEOUT, 120 ms after the UPDATE (R112): the attempts rise; up to the fifth the label waits in RETRY_WAIT for 2, 8,
30, 120 and 480 s, or with the change mark set its attempts are 0 and it is QUEUED at the tail or CURRENT; at the sixth it
is FAULTED and LABEL_FAULTED is raised, whatever the mark; the next head of the queue is then taken (R110). An exchange that
has become void (R114) ends by its ACK or its expiry with nothing taken over or counted; a label still AWAITING there is
QUEUED at the tail or CURRENT. NOT_BEFORE_EXPIRY (R113): a RETRY_WAIT label joins the tail of the queue, its attempts kept;
an idle controller takes the head. An item-changed notice (R109) handles the labels bound to the item by its table, and the
confirmation check and the next exchange follow; a controller that is held takes no action on it (R108), nor one with no
label bound to the item. -/
def Obligations.LabelExchangesEndOrBackOff : Prop :=
  (∀ (s : State) (l : Label),
    (∀ r, s.items.find l.item = some r →
      s.target l.item = { version := r.version, headline := headline r.book, blocked := r.blocked }) ∧
    (s.items.find l.item = none → s.target l.item = { version := 0, headline := 0, blocked := true }) ∧
    (s.needsUpdating l = true ↔
      ((s.target l.item).blocked = false ∧ l.shownVersion < (s.target l.item).version) ∨
        ((s.target l.item).blocked = true ∧ l.shownBlocked = false))) ∧
  (∀ (s : State) (i : Nat) (rest : List Nat) (l : Label), s.labels.held = false → s.labels.exchange = none →
    s.labels.queue = i :: rest → s.held.labelAt i = some l →
    s.startExchange.held.labelAt i = some { l with state := .awaiting } ∧
      s.startExchange.labels.queue = rest ∧
      s.startExchange.labels.exchange = some { index := i, radioId := l.radioId, headline := (s.target l.item).headline
                                               version := (s.target l.item).version, blocked := (s.target l.item).blocked
                                               deadline := s.clock.now + 120, changed := false, void := false } ∧
      s.startExchange.out = s.out ++
        [.labelUpdate l.radioId (s.target l.item).headline (s.target l.item).version (s.target l.item).blocked]) ∧
  (∀ (s : State) (e : Exchange) (l : Label) (radioId : Nat) (battery : Fin 4), s.start.powered = true →
    s.labels.exchange = some e →
    (radioId ≠ e.radioId → exec (.labelAck radioId battery) s = .next { s with out := [] }) ∧
    (radioId = e.radioId → e.void = false → s.held.labelAt e.index = some l →
      ∃ (t : State) (k : _), exec (.labelAck radioId battery) s = .next (t.confirmCheck l.item).startExchange ∧
        k = { l with
          shownVersion := e.version, shownHeadline := e.headline, shownBlocked := e.blocked, attempts := 0
          battery := battery, contact := some s.stamp } ∧
        t.held.labelAt e.index = some { k with state := if s.needsUpdating k then .queued else .current } ∧
        (∀ i, i ≠ e.index → t.held.labelAt i = s.held.labelAt i) ∧
        t = { s with
          out := [], held := { s.held with labels := t.held.labels }
          labels := { s.labels with
            exchange := none, queue := if s.needsUpdating k then s.labels.queue ++ [e.index] else s.labels.queue } })) ∧
  (∀ (s : State) (item : Nat),
    (∀ r p, s.items.find item = some r → r.pending = some p → hasStation p.outstanding s.self = true →
      (∃ l ∈ s.held.labels, l.item = item) →
      (∀ l ∈ s.held.labels, l.item = item → l.state ≠ .faulted ∧ p.version ≤ l.shownVersion) →
      s.silenced = false → s.line.alone = false → s.slot 4 = .free → s.line.kept = [] →
      s.confirmCheck item = { s with
        line := { s.line with slots := s.line.slots.set 4 (placed none (.shown item p.version s.self)) } }) ∧
    ((∀ r p, s.items.find item = some r → r.pending = some p → hasStation p.outstanding s.self = true →
      (∃ l ∈ s.held.labels, l.item = item) →
      ∃ l ∈ s.held.labels, l.item = item ∧ (l.state = .faulted ∨ l.shownVersion < p.version)) →
      s.confirmCheck item = s)) ∧
  (∀ (s : State) (e : Exchange) (l : Label), s.start.powered = true → s.labels.exchange = some e →
    e.deadline ≤ s.clock.now → e.void = false → s.held.labelAt e.index = some l →
    (∀ wait : Nat, (l.attempts, wait) ∈ [(0, 2000), (1, 8000), (2, 30000), (3, 120000), (4, 480000)] → e.changed = false →
      ∃ t : State, exec .updateTimeout s = .next t.startExchange ∧
        t.held.labelAt e.index = some { l with
          attempts := l.attempts + 1, state := .retryWait, notBefore := some (s.clock.now + wait) } ∧
        (∀ i, i ≠ e.index → t.held.labelAt i = s.held.labelAt i) ∧
        t = { s with out := [], held := { s.held with labels := t.held.labels }
                     labels := { s.labels with exchange := none } }) ∧
    (l.attempts < 5 → e.changed = true →
      ∃ (t : State) (k : _), exec .updateTimeout s = .next t.startExchange ∧ k = { l with attempts := 0 } ∧
        t.held.labelAt e.index = some { k with state := if s.needsUpdating l then .queued else .current } ∧
        (∀ i, i ≠ e.index → t.held.labelAt i = s.held.labelAt i) ∧
        t = { s with
          out := [], held := { s.held with labels := t.held.labels }
          labels := { s.labels with
            exchange := none, queue := if s.needsUpdating l then s.labels.queue ++ [e.index] else s.labels.queue } }) ∧
    (l.attempts = 5 →
      ∃ t : State, exec .updateTimeout s = .next t.startExchange ∧
        t.held.labelAt e.index = some { l with attempts := 6, state := .faulted } ∧
        (∀ i, i ≠ e.index → t.held.labelAt i = s.held.labelAt i) ∧ t.flagSet .labelFaulted = true ∧
        SaveForNotes [.labelFaulted] { s with
          out := []
          held := { s.held with labels := t.held.labels }, labels := { s.labels with exchange := none } } t)) ∧
  (∀ (s : State) (i w : Nat) (l : Label), s.start.powered = true → s.held.labelAt i = some l → l.state = .retryWait →
    l.notBefore = some w → w ≤ s.clock.now →
    ∃ t : State, exec (.notBeforeExpiry i) s = .next t.startExchange ∧
      t.held.labelAt i = some { l with state := .queued, notBefore := none } ∧
      (∀ j, j ≠ i → t.held.labelAt j = s.held.labelAt j) ∧
      t = { s with out := [], held := { s.held with labels := t.held.labels }
                   labels := { s.labels with queue := s.labels.queue ++ [i] } }) ∧
  (∀ (s : State) (item : Nat), s.Ordered →
    s.itemChanged item =
      if s.labels.held = true ∨ (∀ l ∈ s.held.labels, l.item ≠ item) then s
      else ((labelsNoticed s item).confirmCheck item).startExchange) ∧
  (∀ (s : State) (e : Exchange), s.start.powered = true → s.Ordered → s.labels.exchange = some e → e.void = true →
    (∀ battery : Fin 4, exec (.labelAck e.radioId battery) s = .next (voidEnded s e).startExchange) ∧
    (e.deadline ≤ s.clock.now → exec .updateTimeout s = .next (voidEnded s e).startExchange)) ∧
  (∀ (s : State) (item : Nat) (p : Pending) (r x : ItemRecord) (line : LinePort) (deferred : List Payload),
    s.items.find item = some r → r.pending = some p → (∃ l ∈ s.held.labels, l.item = item) →
    (∀ l ∈ s.held.labels, l.item = item → l.state ≠ .faulted ∧ p.version ≤ l.shownVersion) → s.items.pull = none →
    OwnEffect s (.shown item p.version s.self) r x → OwnAtOnce s (.shown item p.version s.self) line deferred →
    ∃ items : ItemTable, items.find item = some x ∧ (∀ code, code ≠ item → items.find code = s.items.find code) ∧
      items = { s.items with records := items.records, watch := watchLeft s r x, deferred := deferred } ∧
      s.confirmCheck item = { s with line := line, items := items })

/-- BIND (R36, R105, R116): what it refuses, in order; a new radio id takes the lowest free index, QUEUED at the tail with
nothing shown, and is answered with the index; no other label changes. The first label of an item here sends a HOLD join;
with the alone flag set, or while SILENCED, that is applied at once, this station among the holders, and goes out as one
already applied, or is deferred (R34, R36, R37); an idle controller takes the head of the queue (R110). A radio id in the
table is rebound (R117): the record keeps its index, names the new item with nothing shown and its attempts at 0, and is
QUEUED, or AWAITING still with its exchange void; the old item's last label sends a HOLD leave, the new item's first a HOLD
join (R36). -/
def Obligations.BindMakesALabel : Prop :=
  (∀ (r : Request) (id item : Nat) (s : State), ServiceTakes s r.lane →
    (s.start.straps.labelRadio = false → exec (.bind r id item) s = .next (refusal s r .mode)) ∧
    (s.start.straps.labelRadio = true →
      (id = 0 → exec (.bind r id item) s = .next (refusal s r .noLabel)) ∧
      (id ≠ 0 →
        (s.items.find item = none → exec (.bind r id item) s = .next (refusal s r .unknownItem)) ∧
        (∀ x, s.items.find item = some x →
          (x.blocked = true → exec (.bind r id item) s = .next (refusal s r .blocked)) ∧
          (x.blocked = false → s.held.labelOf id = none →
            (1024 ≤ s.held.labels.length → exec (.bind r id item) s = .next (refusal s r .tableFull)) ∧
            (s.held.labels.length < 1024 → s.held.labels.Pairwise (fun a b => a.index < b.index) →
              ∀ i : Nat, (∀ m ∈ s.held.labels, m.index ≠ i) → (∀ j < i, ∃ m ∈ s.held.labels, m.index = j) →
              (s.held.bound item ≠ [] ∨
                (s.silenced = false ∧ s.line.alone = false ∧ s.slot 4 = .free ∧ s.line.kept = [])) →
              ∃ t : State, exec (.bind r id item) s = .next (t.startExchange.answer r.lane r.number .ok (.index i)) ∧
                t.held.labelOf id = some {
                  index := i, radioId := id, item := item, shownVersion := 0, shownHeadline := 0, shownBlocked := false
                  state := .queued, attempts := 0, notBefore := none, battery := 3, contact := none } ∧
                (∀ j, j ≠ i → t.held.labelAt j = s.held.labelAt j) ∧
                t = { s with
                  out := [], held := { s.held with labels := t.held.labels }
                  labels := { s.labels with queue := s.labels.queue ++ [i] }
                  line := if s.held.bound item ≠ [] then s.line
                    else { s.line with slots := s.line.slots.set 4 (.held .waiting
                      { dest := none, payload := .hold item s.self true, applied := false } 0 false) } })))))) ∧
  (∀ (r : Request) (id item : Nat) (l : Label) (x : ItemRecord) (last first : Bool) (s : State), ServiceTakes s r.lane →
    s.start.straps.labelRadio = true → id ≠ 0 → s.items.find item = some x → x.blocked = false →
    s.held.labelOf id = some l → s.held.labels.Pairwise (fun a b => a.index < b.index) →
    (∀ y, s.items.find l.item = some y → y.pending = none) → s.silenced = false → s.line.alone = false →
    s.slot 4 = .free → s.slot 5 = .free → s.line.kept = [] →
    last = decide (l.item ≠ item ∧ ∀ m ∈ s.held.labels, m.item = l.item → m.index = l.index) →
    first = decide (l.item ≠ item ∧ s.held.bound item = []) →
    ∃ t : State, exec (.bind r id item) s = .next (t.startExchange.answer r.lane r.number .ok (.index l.index)) ∧
      t.held.labelAt l.index = some { l with
        item := item, shownVersion := 0, shownHeadline := 0, shownBlocked := false, attempts := 0, notBefore := none
        state := if l.state = .awaiting then .awaiting else .queued } ∧
      (∀ i, i ≠ l.index → t.held.labelAt i = s.held.labelAt i) ∧
      t = { s with
        out := [], held := { s.held with labels := t.held.labels }
        labels := { s.labels with
          queue := if l.state = .queued ∨ l.state = .awaiting then s.labels.queue else s.labels.queue ++ [l.index]
          exchange := if l.state = .awaiting then
            s.labels.exchange.map fun e => if e.index = l.index then { e with void := true } else e
            else s.labels.exchange }
        line := { s.line with slots :=
          match last, first with
          | false, false => s.line.slots
          | true, false => s.line.slots.set 4 (placed none (.hold l.item s.self false))
          | false, true => s.line.slots.set 4 (placed none (.hold item s.self true))
          | true, true =>
            (s.line.slots.set 4 (placed none (.hold l.item s.self false))).set 5 (placed none (.hold item s.self true)) } }) ∧
  (∀ (r : Request) (id item i : Nat) (x y : ItemRecord) (line : LinePort) (deferred : List Payload) (s : State),
    ServiceTakes s r.lane → s.start.straps.labelRadio = true → id ≠ 0 → s.items.find item = some x → x.blocked = false →
    s.held.labelOf id = none → s.held.labels.length < 1024 → s.held.labels.Pairwise (fun a b => a.index < b.index) →
    (∀ m ∈ s.held.labels, m.index ≠ i) → (∀ j < i, ∃ m ∈ s.held.labels, m.index = j) → s.held.bound item = [] →
    s.items.pull = none → OwnEffect s (.hold item s.self true) x y → OwnAtOnce s (.hold item s.self true) line deferred →
    ∃ t : State, exec (.bind r id item) s = .next (t.startExchange.answer r.lane r.number .ok (.index i)) ∧
      t.held.labelOf id = some {
        index := i, radioId := id, item := item, shownVersion := 0, shownHeadline := 0, shownBlocked := false
        state := .queued, attempts := 0, notBefore := none, battery := 3, contact := none } ∧
      (∀ j, j ≠ i → t.held.labelAt j = s.held.labelAt j) ∧ t.items.find item = some y ∧
      (∀ code, code ≠ item → t.items.find code = s.items.find code) ∧
      t = { s with
        out := [], held := { s.held with labels := t.held.labels }
        labels := { s.labels with queue := s.labels.queue ++ [i] }
        items := { s.items with records := t.items.records, deferred := deferred }, line := line })

/-- UNBIND (R114, R119): the label leaves the table and the queue, its exchange becomes void; an unknown radio id is
answered NO_LABEL. RELEASE with its confirmation (R120): the FAULTED labels of the item leave the table, and their number is
answered (stated where none of them is queued or in an exchange). Both stated for an item with another label bound here and
no increase pending; nothing else changes. Where the label is the last of its item, or RELEASE takes the last, a HOLD leave
is produced besides (R36); with the alone flag set, or while SILENCED, that is applied at once, this station no more among
the holders, and goes out as one already applied, or is deferred (R35, R36, R37; stated for UNBIND). -/
def Obligations.UnbindAndReleaseRemoveLabels : Prop :=
  (∀ (r : Request) (id : Nat) (s : State), ServiceTakes s r.lane →
    (s.held.labelOf id = none → exec (.unbind r id) s = .next (refusal s r .noLabel)) ∧
    (∀ l, s.held.labelOf id = some l → (∃ m ∈ s.held.labels, m.item = l.item ∧ m.index ≠ l.index) →
      (∀ x, s.items.find l.item = some x → x.pending = none) →
      exec (.unbind r id) s = .next { s with
        out := []
        held := { s.held with labels := s.held.labels.filter fun x => !(x.index == l.index) }
        labels := { s.labels with
          queue := s.labels.queue.filter fun i => !(i == l.index)
          exchange := s.labels.exchange.map fun e => if e.index = l.index then { e with void := true } else e }
        lanes := lanesWith s r.lane (answered s r.lane (s.lane r.lane).basket r.number .ok .none) })) ∧
  (∀ (r : Request) (item : Nat) (s : State), ServiceTakes s r.lane → r.confirm = 233 →
    (s.held.labels.Pairwise fun a b => a.index < b.index) →
    (∃ m ∈ s.held.labels, m.item = item ∧ m.state ≠ .faulted) → (∀ x, s.items.find item = some x → x.pending = none) →
    (∀ l ∈ s.held.labels, l.item = item → l.state = .faulted →
      l.index ∉ s.labels.queue ∧ ∀ e, s.labels.exchange = some e → e.index ≠ l.index) →
    exec (.release r item) s = .next { s with
      out := []
      held := { s.held with labels := s.held.labels.filter fun l => !(l.item == item && l.state == .faulted) }
      lanes := lanesWith s r.lane (answered s r.lane (s.lane r.lane).basket r.number .ok
        (.count (s.held.labels.filter fun l => l.item == item && l.state == .faulted).length)) }) ∧
  (∀ (r : Request) (id : Nat) (l : Label) (s : State), ServiceTakes s r.lane → s.held.labelOf id = some l →
    (∀ m ∈ s.held.labels, m.item = l.item → m.index = l.index) → s.silenced = false → s.line.alone = false →
    s.slot 4 = .free → s.line.kept = [] →
    exec (.unbind r id) s = .next { s with
      out := []
      held := { s.held with labels := s.held.labels.filter fun x => !(x.index == l.index) }
      labels := { s.labels with
        queue := s.labels.queue.filter fun i => !(i == l.index)
        exchange := s.labels.exchange.map fun e => if e.index = l.index then { e with void := true } else e }
      line := { s.line with slots := s.line.slots.set 4 (placed none (.hold l.item s.self false)) }
      lanes := lanesWith s r.lane (answered s r.lane (s.lane r.lane).basket r.number .ok .none) }) ∧
  (∀ (r : Request) (item : Nat) (s : State), ServiceTakes s r.lane → r.confirm = 233 →
    (s.held.labels.Pairwise fun a b => a.index < b.index) → s.held.bound item ≠ [] →
    (∀ l ∈ s.held.labels, l.item = item → l.state = .faulted ∧ l.index ∉ s.labels.queue ∧
      ∀ e, s.labels.exchange = some e → e.index ≠ l.index) →
    s.silenced = false → s.line.alone = false → s.slot 4 = .free → s.line.kept = [] →
    exec (.release r item) s = .next { s with
      out := []
      held := { s.held with labels := s.held.labels.filter fun l => !(l.item == item) }
      line := { s.line with slots := s.line.slots.set 4 (placed none (.hold item s.self false)) }
      lanes := lanesWith s r.lane (answered s r.lane (s.lane r.lane).basket r.number .ok
        (.count (s.held.bound item).length)) }) ∧
  (∀ (r : Request) (id : Nat) (l : Label) (x y : ItemRecord) (line : LinePort) (deferred : List Payload) (s : State),
    ServiceTakes s r.lane → s.held.labelOf id = some l → (∀ m ∈ s.held.labels, m.item = l.item → m.index = l.index) →
    s.items.find l.item = some x → s.items.pull = none → OwnEffect s (.hold l.item s.self false) x y →
    OwnAtOnce s (.hold l.item s.self false) line deferred →
    ∃ t : State, exec (.unbind r id) s = .next t ∧ t.items.find l.item = some y ∧
      (∀ code, code ≠ l.item → t.items.find code = s.items.find code) ∧
      t = { s with
        out := []
        held := { s.held with labels := s.held.labels.filter fun x => !(x.index == l.index) }
        labels := { s.labels with
          queue := s.labels.queue.filter fun i => !(i == l.index)
          exchange := s.labels.exchange.map fun e => if e.index = l.index then { e with void := true } else e }
        items := { s.items with records := t.items.records, deferred := deferred }, line := line
        lanes := lanesWith s r.lane (answered s r.lane (s.lane r.lane).basket r.number .ok .none) })

/-- LABEL (R106, R121): NO_LABEL, or the record as it stands with the time left to its not-before and its target, the item's
version and blocked flag, or version 0 and blocked where it has no record; nothing changes. Zeros stand for a not-before or
a last contact that is not there (the model's reading, notes/assumptions/24.md). -/
def Obligations.LabelReadsTheRecord : Prop :=
  ∀ (r : Request) (id : Nat) (s : State), ServiceTakes s r.lane →
    (s.held.labelOf id = none → exec (.label r id) s = .next (refusal s r .noLabel)) ∧
    (∀ l version blocked, s.held.labelOf id = some l →
      (version, blocked) = (match s.items.find l.item with | some x => (x.version, x.blocked) | none => (0, true)) →
      exec (.label r id) s = .next { s with
        out := []
        lanes := lanesWith s r.lane (answered s r.lane (s.lane r.lane).basket r.number .ok
          (.label l.index l.radioId l.item l.shownVersion l.shownHeadline l.shownBlocked blocked l.state l.attempts
            (match l.notBefore with | some w => w - s.clock.now | none => 0) l.battery.val
            (l.contact.getD { valid := false, day := 0, second := 0 }) version)) })

/-- CARRIER_FREE, UPLINK_MALFORMED and FLOW_IDLE_EXPIRY (R126, R131, R138, R143): the link is free again and what waits is
settled; a malformed frame is counted up to 65,535; a flow unused for 120 s goes with the packets queued for it, which are
counted. LINK and CARRIER_PRESENCE_LOST (R124, R138, R141, R166): the carrier's presence is counted from each frame,
CARRIER_FREE being none (the model's reading, notes/assumptions/17.md); UP sets the link UP; DOWN, or 3 s without a frame,
sets it DOWN, free for when it rises (notes/assumptions/16.md), ends the guest flows, empties the GUEST queue and marks a
batch in hand. An authorisation still queued is answered DECLINED_NO_ROUTE to its origin, oldest first, and its entry goes
(R141; stated for one or two, of peers, and for one of this station's own lane, which takes the stand-in decision at once,
R84, R137). Gateway, with the ends of clients (O51), pressure and night are then worked out again and settled. What the
night does on UP: CONNECT ends (R163), with DRAIN begun at the lowest station heard and not ABSENT (stated for a peer below
this station), or with the D1 mark every station CUT, those UNKNOWN NONE (R164), and PRICES begun; a batch that waits for
the link begins (R165, as one that has not seen it DOWN, notes/assumptions/65.md); a follower takes over (R172); else
nothing. -/
def Obligations.CarrierLinkRisesAndFalls : Prop :=
  (∀ (s : State), s.start.powered = true →
    (s.start.straps.uplink = true →
      exec .carrierFree s = .next (State.settle { s with out := [], router := { s.router with linkFree := true } }) ∧
      exec .uplinkMalformed s = .next { s with
        out := []
        router := { s.router with
          carrierHeard := some s.clock.now, malformed := min (s.router.malformed + 1) 65535 } }) ∧
    (∀ f : GuestFlow, s.router.guestFlows.filter (fun x => x.index == f.index) = [f] →
      f.lastUsed + 120000 ≤ s.clock.now →
      exec (.flowIdleExpiry f.index) s = .next { s with
        out := []
        router := { s.router with
          guestFlows := s.router.guestFlows.filter fun x => !(x.index == f.index)
          guestQueue := s.router.guestQueue.filter fun g => !(g.flow == f.index)
          guestDropped := min (s.router.guestDropped +
            (s.router.guestQueue.filter fun g => g.flow == f.index).length) 65535 } })) ∧
  (∀ s : State, s.start.powered = true → s.start.straps.uplink = true →
    (s.router.linkUp = false →
      exec (.link true) s = .next (State.settle (State.nightLinkUp (State.rosterRecalc { s with
        out := [], router := { s.router with carrierHeard := some s.clock.now, linkUp := true } })))) ∧
    (∀ up, s.router.linkUp = up →
      exec (.link up) s = .next { s with out := [], router := { s.router with carrierHeard := some s.clock.now } }) ∧
    (s.router.linkUp = true → s.router.authQueue = [] →
      exec (.link false) s = .next (State.settle (State.rosterRecalc { s with
        out := [], router := routerDown s.router (some s.clock.now)
        night := { s.night with batch := s.night.batch.map fun b => { b with linkLost := true } } }))) ∧
    (∀ h, s.router.carrierHeard = some h → h + 3000 ≤ s.clock.now →
      (s.router.linkUp = false →
        exec .carrierPresenceLost s = .next { s with out := [], router := { s.router with carrierHeard := none } }) ∧
      (s.router.linkUp = true → s.router.authQueue = [] →
        exec .carrierPresenceLost s = .next (State.settle (State.rosterRecalc { s with
          out := [], router := routerDown s.router none
          night := { s.night with batch := s.night.batch.map fun b => { b with linkLost := true } } }))))) ∧
  (∀ (s : State) (a : AuthItem) (more : List AuthItem), s.start.powered = true → s.start.straps.uplink = true →
    s.router.linkUp = true → s.router.authQueue = a :: more → more.length ≤ 1 →
    (∀ x ∈ a :: more, x.origin ≠ s.self ∧ ∃ f ∈ s.router.authFlows, f.tag = x.tag) → s.silenced = false →
    s.slot 0 = .free → s.slot 1 = .free → s.line.kept = [] →
    exec (.link false) s = .next (State.settle (State.rosterRecalc { s with
      out := []
      line := { s.line with
        slots :=
          match more with
          | [] => s.line.slots.set 0 (placed (some a.origin) (.autha a.lane a.basket .declinedNoRoute))
          | b :: _ =>
            (s.line.slots.set 0 (placed (some a.origin) (.autha a.lane a.basket .declinedNoRoute))).set 1
              (placed (some b.origin) (.autha b.lane b.basket .declinedNoRoute)) }
      router := routerDown { s.router with
        authQueue := []
        authFlows := s.router.authFlows.filter fun f => !((a :: more).any fun x => x.tag == f.tag) } (some s.clock.now)
      night := { s.night with batch := s.night.batch.map fun b => { b with linkLost := true } } }))) ∧
  (∀ s : State,
    (∀ n : Station, s.night.state = .exchanging → s.night.stage = some .connect → s.night.d1 = false →
      s.night.dayDrain = false → s.uplinkUp = true → s.silenced = false → s.slot 8 = .free → s.line.kept = [] →
      n < s.self → s.entry n ≠ none → s.absent n = false → (∀ m : Station, m < n → s.entry m = none ∨ s.absent m = true) →
      s.nightLinkUp = { s with
        line := { s.line with slots := s.line.slots.set 8 (placed (some n) (.jpull 16)) }
        night := { s.night with
          stage := some .drain, attempts := 0, walk := some n, batch := some (freshBatch n)
          drain := Vector.ofFn fun i => if i < n then
            { s.night.drain[i.val] with outcome := if s.absent i = true then .absent else .none }
            else s.night.drain[i.val] } }) ∧
    (s.night.state = .exchanging → s.night.stage = some .connect → s.night.d1 = true →
      s.nightLinkUp = { s with night := { s.night with
        stage := some .prices, walk := none, batch := none, drainOutcome := some false, stallUntil := none
        askedAgain := false, newest := none, pricesEnding := none, donePending := false
        waiting := s.night.waiting ++ [.batchReq s.items.applied]
        drain := Vector.ofFn fun i => { s.night.drain[i.val] with
          outcome := if i = s.self ∨ s.entry i ≠ none then .cut else .none } } }) ∧
    (∀ b, s.night.state = .exchanging → s.night.stage ≠ some .connect → s.night.batch = some b → b.phase = .waitLink →
      b.target ≠ s.self → s.night.d1 = false → s.night.dayDrain = false → s.night.attempts < 3 → s.uplinkUp = true →
      s.silenced = false → s.slot 8 = .free → s.line.kept = [] →
      s.nightLinkUp = { s with
        line := { s.line with slots := s.line.slots.set 8 (placed (some b.target) (.jpull 16)) }
        night := { s.night with walk := some b.target, batch := some (freshBatch b.target) } }) ∧
    (s.night.state = .following → s.night.batch = none → s.night.d1 = false → s.start.profileBad = false →
      s.uplinkUp = true → (∀ n, s.night.exchange = some n → s.absent n = true) → s.silenced = false → s.slot 2 = .free →
      s.line.kept = [] →
      s.nightLinkUp = { s with
        line := { s.line with slots := s.line.slots.set 2 (placed none .claim) }
        night := { s.night with state := .claiming, claimUntil := some (s.clock.now + 2000) } }) ∧
    (s.night.state ≠ .exchanging ∨ s.night.stage ≠ some .connect → (∀ b, s.night.batch = some b → b.phase ≠ .waitLink) →
      (s.night.state ≠ .following ∨ s.night.d1 = true ∨ s.start.profileBad = true ∨ s.uplinkUp = false ∨
        ∃ n, s.night.exchange = some n ∧ s.absent n = false) →
      s.nightLinkUp = s)) ∧
  (∀ (l : Lane) (e : AuthEntry) (n : Nat) (b : Basket) (a : AuthItem) (s u : State), AuthWaits s l e n →
    b = (s.lane l).basket → s.start.straps.uplink = true → s.router.linkUp = true → s.router.authQueue = [a] →
    a.origin = s.self → a.lane = l → a.basket = e.basket → (∃ f ∈ s.router.authFlows, f.tag = a.tag) →
    u = { s with
      out := []
      router := routerDown { s.router with
        authQueue := [], authFlows := s.router.authFlows.filter fun f => !(f.tag == a.tag) } (some s.clock.now)
      night := { s.night with batch := s.night.batch.map fun b => { b with linkLost := true } } } →
    (e.amount ≤ s.start.profile.floorLimit → (e.amount : Int) ≤ b.remaining →
      exec (.link false) s = .next (State.settle (State.rosterRecalc { u with
        lanes := lanesWith s l { answered s l (cardTaken b e.amount true) n .approvedStandin (cardContents b e.amount) with
          inFlight := none, auth := none } }))) ∧
    (s.start.profile.floorLimit < e.amount →
      exec (.link false) s = .next (State.settle (State.rosterRecalc { u with
        lanes := lanesWith s l { answered s l
          { b with state := if b.tenders = [] then .totalled else .tendering }
          n .declinedNoAnswer (.remaining b.remaining) with inFlight := none, auth := none } }))))

/-- TAKE_AUTHQ (R133, R134): with the uplink up, an AUTH entry with the lowest free tag and an OFFICE_AUTH behind the AUTH
queue (stated where the carrier link is busy); without it, or with no free tag, DECLINED_NO_ROUTE to the origin. An entry of
the same origin, lane and basket is replaced, its request taken out of the queue, its tag free for the new one (the model's
choice, notes/assumptions/81.md). Settled after. OFFICE_AUTH_ANS and AUTH_ENTRY_EXPIRY (R135, R136, R137, R143): an answer
goes as an AUTHA to the origin of the entry with its tag, and the entry goes; where the origin is this station it is handed
to the lane, which takes it as an AUTHA: a matching APPROVED adds the card tender, DECLINED takes the basket back, and one
that matches nothing there is dropped (R83, R87); one with an unknown tag is counted; an entry 20 s old goes silently with
its request. -/
def Obligations.AuthorisationsAreRouted : Prop :=
  (∀ (s : State) (n origin : Station) (lane : Lane) (basket amount : Nat) (rest : List Received), s.start.powered = true →
    s.line.authInbox = { sender := n, payload := .authq origin lane basket amount } :: rest → origin ≠ s.self →
    (s.uplinkUp = true → s.router.linkFree = false →
      (∀ f ∈ s.router.authFlows, ¬ (f.origin = origin ∧ f.lane = lane ∧ f.basket = basket)) →
      ∀ tag : Nat, 1 ≤ tag → tag ≤ 64 → (∀ f ∈ s.router.authFlows, f.tag ≠ tag) →
        (∀ k, 1 ≤ k → k < tag → ∃ f ∈ s.router.authFlows, f.tag = k) →
        exec .takeAuthq s = .next (State.settle { s with
          out := [], line := { s.line with authInbox := rest }
          router := { s.router with
            authFlows := s.router.authFlows ++
              [{ tag := tag, origin := origin, lane := lane, basket := basket, amount := amount, made := s.clock.now
                 sent := none }]
            authQueue := s.router.authQueue ++
              [{ tag := tag, origin := origin, lane := lane, basket := basket, amount := amount }] } })) ∧
    (s.uplinkUp = false → s.silenced = false → s.slot 0 = .free → s.line.kept = [] →
      exec .takeAuthq s = .next (State.settle { s with
        out := []
        line := { s.line with
          authInbox := rest
          slots := s.line.slots.set 0 (.held .waiting
            { dest := some origin, payload := .autha lane basket .declinedNoRoute, applied := false } 0 false) } }))) ∧
  (∀ (s : State) (n origin : Station) (lane : Lane) (basket amount : Nat) (rest : List Received), s.start.powered = true →
    s.line.authInbox = { sender := n, payload := .authq origin lane basket amount } :: rest → origin ≠ s.self →
    (s.uplinkUp = true → s.silenced = false → s.slot 0 = .free → s.line.kept = [] →
      (∀ f ∈ s.router.authFlows, ¬ (f.origin = origin ∧ f.lane = lane ∧ f.basket = basket)) →
      (∀ tag, 1 ≤ tag → tag ≤ 64 → ∃ f ∈ s.router.authFlows, f.tag = tag) →
      exec .takeAuthq s = .next (State.settle { s with
        out := []
        line := { s.line with
          authInbox := rest
          slots := s.line.slots.set 0 (placed (some origin) (.autha lane basket .declinedNoRoute)) } })) ∧
    (∀ old : AuthFlow, s.uplinkUp = true → s.router.linkFree = false → old.origin = origin → old.lane = lane →
      old.basket = basket → s.router.authFlows = [old] →
      exec .takeAuthq s = .next (State.settle { s with
        out := [], line := { s.line with authInbox := rest }
        router := { s.router with
          authFlows := [{ tag := 1, origin := origin, lane := lane, basket := basket, amount := amount
                          made := s.clock.now, sent := none }]
          authQueue := (s.router.authQueue.filter fun a => !(a.tag == old.tag)) ++
            [{ tag := 1, origin := origin, lane := lane, basket := basket, amount := amount }] } }))) ∧
  (∀ (s : State) (tag : Nat) (d : OfficeDecision), s.start.powered = true →
    (s.start.straps.uplink = true →
      ((∀ f ∈ s.router.authFlows, f.tag ≠ tag) →
        exec (.officeAuthAns tag d) s = .next (State.settle { s with
          out := []
          router := { s.router with
            carrierHeard := some s.clock.now, unknownAnswers := min (s.router.unknownAnswers + 1) 65535 } })) ∧
      (∀ f, s.router.authFlows.filter (fun g => g.tag == tag) = [f] → f.origin ≠ s.self → s.silenced = false →
        s.slot 0 = .free → s.line.kept = [] →
        exec (.officeAuthAns tag d) s = .next (State.settle { s with
          out := []
          router := { s.router with
            carrierHeard := some s.clock.now
            authFlows := s.router.authFlows.filter fun g => !(g.tag == tag)
            authQueue := s.router.authQueue.filter fun a => !(a.tag == tag) }
          line := { s.line with slots := s.line.slots.set 0 (.held .waiting
            { dest := some f.origin, applied := false
              payload := .autha f.lane f.basket (match d with | .approved => .approved | .declined => .declined) }
            0 false) } }))) ∧
    (∀ f, s.router.authFlows.filter (fun g => g.tag == tag) = [f] → f.made + 20000 ≤ s.clock.now →
      exec (.authEntryExpiry tag) s = .next { s with
        out := []
        router := { s.router with
          authFlows := s.router.authFlows.filter fun g => !(g.tag == tag)
          authQueue := s.router.authQueue.filter fun a => !(a.tag == tag) } })) ∧
  (∀ (l : Lane) (e : AuthEntry) (n tag : Nat) (b : Basket) (d : OfficeDecision) (f : AuthFlow) (s u : State),
    AuthWaits s l e n → b = (s.lane l).basket → s.start.straps.uplink = true →
    s.router.authFlows.filter (fun g => g.tag == tag) = [f] → f.origin = s.self → f.lane = l → f.basket = e.basket →
    u = { s with
      out := []
      router := { s.router with
        carrierHeard := some s.clock.now, authFlows := s.router.authFlows.filter fun g => !(g.tag == tag)
        authQueue := s.router.authQueue.filter fun a => !(a.tag == tag) } } →
    (d = .approved → (e.amount : Int) ≤ b.remaining →
      exec (.officeAuthAns tag d) s = .next (State.settle { u with
        lanes := lanesWith s l { answered s l (cardTaken b e.amount false) n .approved (cardContents b e.amount) with
          inFlight := none, auth := none } })) ∧
    (d = .declined →
      exec (.officeAuthAns tag d) s = .next (State.settle { u with
        lanes := lanesWith s l { answered s l
          { b with state := if b.tenders = [] then .totalled else .tendering }
          n .declined (.remaining b.remaining) with inFlight := none, auth := none } }))) ∧
  (∀ (tag : Nat) (d : OfficeDecision) (f : AuthFlow) (s : State), s.start.powered = true → s.start.straps.uplink = true →
    s.router.authFlows.filter (fun g => g.tag == tag) = [f] → f.origin = s.self →
    (∀ e, (s.lane f.lane).auth = some e → e.basket ≠ f.basket) → (∀ e ∈ (s.lane f.lane).late, e.basket ≠ f.basket) →
    exec (.officeAuthAns tag d) s = .next (State.settle { s with
      out := []
      router := { s.router with
        carrierHeard := some s.clock.now, authFlows := s.router.authFlows.filter fun g => !(g.tag == tag)
        authQueue := s.router.authQueue.filter fun a => !(a.tag == tag) } }))

/-- GUEST_PACKET_IN (R140, R152): a packet for the flow of an ADMITTED client renews the flow; within the allowance it is
charged to it and handed to the access point, with the flow's far address and port as its own (the model's choice,
notes/assumptions/63.md), above it it is dropped and counted and the client is EXHAUSTED; a packet for no such flow is
dropped and counted. -/
def Obligations.InboundPacketsReachTheirClient : Prop :=
  ∀ (s : State) (port : Nat) (data : List Byte), s.start.powered = true → s.start.straps.uplink = true →
    ((port < 20000 ∨ 20511 < port ∨ s.router.flow (port - 20000) = none ∨
        ∃ f, s.router.flow (port - 20000) = some f ∧ (s.guestAt f.slot).state ≠ .admitted) →
      exec (.guestPacketIn port data) s = .next { s with
        out := []
        router := { s.router with
          carrierHeard := some s.clock.now, guestDropped := min (s.router.guestDropped + 1) 65535 } }) ∧
    (∀ f a, 20000 ≤ port → port ≤ 20511 → s.router.flow (port - 20000) = some f → (s.guestAt f.slot).state = .admitted →
      (s.guestAt f.slot).address = some a →
      ∃ t : State, exec (.guestPacketIn port data) s = .next t ∧
        t.router.flow f.index = some { f with lastUsed := s.clock.now } ∧
        (∀ i, i ≠ f.index → t.router.flow i = s.router.flow i) ∧
        (data.length ≤ (s.guestAt f.slot).allowance → t = { s with
          out := [.accessPoint (.packet a f.port f.dest f.destPort data)]
          router := { s.router with carrierHeard := some s.clock.now, guestFlows := t.router.guestFlows }
          guest := { s.guest with
            table := s.guest.table.set f.slot.val
              { s.guestAt f.slot with allowance := (s.guestAt f.slot).allowance - data.length } } }) ∧
        ((s.guestAt f.slot).allowance < data.length → t = { s with
          out := []
          router := { s.router with carrierHeard := some s.clock.now, guestFlows := t.router.guestFlows }
          guest := { s.guest with
            policed := min (s.guest.policed + 1) 65535
            table := s.guest.table.set f.slot.val { s.guestAt f.slot with state := .exhausted } } }))

/-- The scheduler's choice (R131, R132): nothing while the link is DOWN or busy; the AUTH queue's head before anything else.
With no authorisation waiting, NIGHT, GUEST and SERVICE in turn: a turn not begun adds the class's quantum to its deficit; a
head that the deficit covers is sent and its length paid; a head it does not cover passes the turn with the deficit kept,
and a class with nothing waiting passes it with its deficit at 0. The next class's turn begins with its quantum. The quanta
are 4,000 for NIGHT, 500 for SERVICE, and for GUEST 1,500, 750 at the high mark, or 0 in the night window or a day drain. An
office item's length is its body and 7 bytes about it (the model's reading, notes/assumptions/18.md). A turn that passes is
stated up to the next class. -/
def Obligations.SchedulerServesAuthThenDeficit : Prop :=
  ∀ s : State,
    ((s.router.linkUp = false ∨ s.router.linkFree = false) → s.schedule = s) ∧
    (s.router.linkUp = true → s.router.linkFree = true →
      (∀ a rest, s.router.authQueue = a :: rest →
        s.schedule = { s with
          out := s.out ++ [.carrier (.auth a)]
          router := { s.router with
            authQueue := rest, linkFree := false
            authFlows := s.router.authFlows.map fun f =>
              if f.tag = a.tag then { f with sent := some s.clock.now } else f } }) ∧
      (s.router.authQueue = [] →
        (∀ c item n r, s.router.current = c → headOf s.router c = some (item, n, r) →
          (s.router.turnBegun = true → n ≤ s.router.deficit c →
            s.schedule = { s with
              out := s.out ++ [.carrier item]
              router := { r.setDeficit c (s.router.deficit c - n) with linkFree := false } }) ∧
          (s.router.turnBegun = false → n ≤ s.router.deficit c + quantumOf s c →
            s.schedule = { s with
              out := s.out ++ [.carrier item]
              router := { r.setDeficit c (s.router.deficit c + quantumOf s c - n) with
                linkFree := false, turnBegun := true } })) ∧
        (∀ c c' item n r, s.router.current = c → s.router.turnBegun = true →
          (c, c') ∈ [(SharedClass.night, SharedClass.guest), (.guest, .service), (.service, .night)] →
          headOf s.router c' = some (item, n, r) → n ≤ s.router.deficit c' + quantumOf s c' →
          (headOf s.router c = none →
            s.schedule = { s with
              out := s.out ++ [.carrier item]
              router := { (r.setDeficit c 0).setDeficit c' (s.router.deficit c' + quantumOf s c' - n) with
                linkFree := false, current := c', turnBegun := true } }) ∧
          (∀ item' n' r', headOf s.router c = some (item', n', r') → s.router.deficit c < n' →
            s.schedule = { s with
              out := s.out ++ [.carrier item]
              router := { r.setDeficit c' (s.router.deficit c' + quantumOf s c' - n) with
                linkFree := false, current := c', turnBegun := true } })) ∧
        (∀ c, s.router.current = c → (∀ k, headOf s.router k = none) →
          (s.router.turnBegun = false → s.schedule = s) ∧
          (s.router.turnBegun = true →
            s.schedule = { s with router := { s.router.setDeficit c 0 with current := c.next, turnBegun := false } }))))

/-- The closed condition (R144): a bad profile, an invalid Clock, a time of day outside open hours, across midnight where
the close minute is the lower and never within where the two are equal, an open night window or a day drain. ASSOC (R146):
an ADMITTED client of a unit that serves is admitted again unchanged; then, in order and whatever its entry, CLOSED,
NO_UPLINK and PAUSED refuse; then EVICTED, and ALLOWANCE where it is EXHAUSTED or ENDED with less than 64 left. An ENDED one
with 64 or more is readmitted into its entry, allowance and strikes kept (R147). A client without an entry takes the lowest
FREE slot, else the ENDED entry whose ended time is earliest, the lowest among equals, with a full bucket, the day's
allowance, no strikes and 3,600 s (R147); with neither FREE nor ENDED entry it is refused FULL. -/
def Obligations.AssociationInOrder : Prop :=
  (∀ s : State, s.closed = true ↔
    s.start.profileBad = true ∨ s.clock.valid = false ∨ s.night.state ∈ [.claiming, .exchanging, .following] ∨
      s.night.dayDrain = true ∨
      ¬ ((s.start.profile.openMinute < s.start.profile.closeMinute ∧
            s.start.profile.openMinute * 60 ≤ s.clock.second ∧ s.clock.second < s.start.profile.closeMinute * 60) ∨
          (s.start.profile.closeMinute < s.start.profile.openMinute ∧
            (s.start.profile.openMinute * 60 ≤ s.clock.second ∨ s.clock.second < s.start.profile.closeMinute * 60)))) ∧
  (∀ (s : State) (a : Nat), s.start.powered = true → s.start.straps.guestPort = true →
    (∀ i, s.serves = true → s.guestOf a = some i → (s.guestAt i).state = .admitted →
      exec (.assoc a) s = .next { s with
        out := [.accessPoint (.admission a)], guest := { s.guest with apHeard := some s.clock.now } }) ∧
    ((∀ i, s.guestOf a = some i → s.serves = true → (s.guestAt i).state ≠ .admitted) →
      (s.closed = true → exec (.assoc a) s = .next (assocRefused s a .closed)) ∧
      (s.closed = false → s.serves = false ∨ s.uplinkUp = false → exec (.assoc a) s = .next (assocRefused s a .noUplink)) ∧
      (s.closed = false → s.serves = true → s.uplinkUp = true → 22528 ≤ s.roster.pressure →
        exec (.assoc a) s = .next (assocRefused s a .paused)))) ∧
  (∀ (s : State) (a : Nat) (fresh : GuestEntry), s.start.powered = true → s.start.straps.guestPort = true →
    s.closed = false → s.serves = true → s.uplinkUp = true → s.roster.pressure < 22528 →
    fresh = { address := some a, state := .admitted, sessionEnd := some (s.clock.now + 3600000), bucket := 65536
              allowance := 500000000, strikes := 0, ended := none } →
    (∀ i, s.guestOf a = some i →
      ((s.guestAt i).state = .evicted → exec (.assoc a) s = .next (assocRefused s a .evicted)) ∧
      ((s.guestAt i).state = .exhausted → exec (.assoc a) s = .next (assocRefused s a .allowance)) ∧
      ((s.guestAt i).state = .ended → (s.guestAt i).allowance < 64 →
        exec (.assoc a) s = .next (assocRefused s a .allowance)) ∧
      ((s.guestAt i).state = .ended → 64 ≤ (s.guestAt i).allowance →
        exec (.assoc a) s = .next (assocAdmitted s a i { s.guestAt i with
          state := .admitted, sessionEnd := some (s.clock.now + 3600000), bucket := 65536, ended := none }))) ∧
    (s.guestOf a = none →
      (∀ i : Fin 64, (s.guestAt i).state = .free → (∀ j : Fin 64, j < i → (s.guestAt j).state ≠ .free) →
        exec (.assoc a) s = .next (assocAdmitted s a i fresh)) ∧
      (∀ i : Fin 64, (∀ j : Fin 64, (s.guestAt j).state ≠ .free) → (s.guestAt i).state = .ended →
        (∀ j : Fin 64, (s.guestAt j).state = .ended →
          (s.guestAt i).ended.getD 0 < (s.guestAt j).ended.getD 0 ∨
            ((s.guestAt i).ended.getD 0 = (s.guestAt j).ended.getD 0 ∧ i ≤ j)) →
        exec (.assoc a) s = .next (assocAdmitted s a i fresh)) ∧
      ((∀ j : Fin 64, (s.guestAt j).state ≠ .free ∧ (s.guestAt j).state ≠ .ended) →
        exec (.assoc a) s = .next (assocRefused s a .full))))

/-- STATUS, GUEST_FRAME_BAD and AP_LINK_LOST (R154, R190): a good frame keeps the access point's link counted; a bad one
does nothing; 3 s without a frame ends the count and every joined client without DROP. Without the guest port nothing is
taken. DISASSOC and SESSION_END (R153) of a joined client: ENDED with the ended time now, its session end gone and its
flows, and no others, removed with the packets queued for them, which are counted as dropped (R138); SESSION_END alone sends
DROP; a client not joined, or unknown, stays as it is, and so does every client while the unit does not serve. AP_RESET ends
every joined client without DROP, with their flows alone (R154). What other commands do to the clients (R154): as a window
opens or a day drain begins every joined one ends with DROP, in ascending slot order, and the GUEST deficit is 0 (R132); as
the Roster's gateway is derived anew and the role is laid down, by the carrier link, the standing or a lower station, each
ends so too (R125), and a day drain ends (R176; stated with no batch in hand); else the gateway alone changes. BUCKET_REFILL
(R150): at a multiple of 4 ms every joined client's bucket rises by 1,000 bytes up to 65,536, no other entry changes, and
the next refill is at the next multiple. Before its time no timer of these changes anything (the model's choice,
notes/assumptions/13.md). -/
def Obligations.GuestSessionsEndAndBucketsFill : Prop :=
  (∀ s : State, s.start.powered = true →
    (s.start.straps.guestPort = true →
      exec .status s = .next { s with out := [], guest := { s.guest with apHeard := some s.clock.now } }) ∧
    (s.start.straps.guestPort = false → exec .status s = .next { s with out := [] }) ∧
    exec .guestFrameBad s = .next { s with out := [] } ∧
    (∀ h, s.guest.apHeard = some h →
      (s.clock.now < h + 3000 → exec .apLinkLost s = .next { s with out := [] }) ∧
      (h + 3000 ≤ s.clock.now →
        ((∀ i, (s.guestAt i).joined = false) →
          exec .apLinkLost s = .next { s with out := [], guest := { s.guest with apHeard := none } }) ∧
        ((∃ i, (s.guestAt i).joined = true) →
          ∃ t : State, exec .apLinkLost s = .next t ∧
            (∀ i : Fin 64, t.guestAt i =
              if (s.guestAt i).joined then sessionEnded (s.guestAt i) s.clock.now else s.guestAt i) ∧
            t = { s with
              out := [], router := flowsGone s.router fun f => (s.guestAt f.slot).joined
              guest := { s.guest with apHeard := none, table := t.guest.table } })))) ∧
  (∀ (s : State) (i : Fin 64) (a : Nat), s.start.powered = true → s.start.straps.guestPort = true →
    (s.serves = true → s.guestOf a = some i →
      ((s.guestAt i).joined = true →
        exec (.disassoc a) s = .next { s with
          out := [], router := flowsGone s.router fun f => f.slot == i
          guest := { s.guest with
            apHeard := some s.clock.now
            table := s.guest.table.set i.val (sessionEnded (s.guestAt i) s.clock.now) } }) ∧
      ((s.guestAt i).joined = false →
        exec (.disassoc a) s = .next { s with out := [], guest := { s.guest with apHeard := some s.clock.now } })) ∧
    (s.serves = false ∨ s.guestOf a = none →
      exec (.disassoc a) s = .next { s with out := [], guest := { s.guest with apHeard := some s.clock.now } }) ∧
    (∀ w, (s.guestAt i).joined = true → (s.guestAt i).address = some a → (s.guestAt i).sessionEnd = some w →
      (s.clock.now < w → exec (.sessionEnd i) s = .next { s with out := [] }) ∧
      (w ≤ s.clock.now →
        exec (.sessionEnd i) s = .next { s with
          out := [.accessPoint (.drop a)], router := flowsGone s.router fun f => f.slot == i
          guest := { s.guest with
            table := s.guest.table.set i.val (sessionEnded (s.guestAt i) s.clock.now) } }))) ∧
  (∀ (s : State), s.start.powered = true → s.start.straps.guestPort = true →
    ((∀ i, (s.guestAt i).joined = false) →
      exec .apReset s = .next { s with out := [], guest := { s.guest with apHeard := some s.clock.now } }) ∧
    ((∃ i, (s.guestAt i).joined = true) →
      ∃ t : State, exec .apReset s = .next t ∧
        (∀ i : Fin 64, t.guestAt i =
          if (s.guestAt i).joined then sessionEnded (s.guestAt i) s.clock.now else s.guestAt i) ∧
        t = { s with
          out := [], router := flowsGone s.router fun f => (s.guestAt f.slot).joined
          guest := { s.guest with apHeard := some s.clock.now, table := t.guest.table } })) ∧
  (∀ (s : State) (night : Night), s.router.guestDropped ≤ 65535 →
    (s.night.dayDrain = false ∧ night = s.night) ∨
      (s.night.dayDrain = true ∧ s.night.batch = none ∧ night = { s.night with
        dayDrain := false, walk := none, attempts := 0, restUntil := some (s.clock.now + 600000) }) →
    s.shutGuests = guestsShut s ∧
    s.recalcGateway =
      if s.roster.gateway = some s.self ∧ s.gatewayNow ≠ some s.self then
        guestsEnded { s with night := night, roster := { s.roster with gateway := s.gatewayNow } }
      else { s with roster := { s.roster with gateway := s.gatewayNow } }) ∧
  (∀ s : State, s.start.powered = true →
    (s.clock.now < s.guest.refillAt → exec .bucketRefill s = .next { s with out := [] }) ∧
    (s.guest.refillAt ≤ s.clock.now →
      ∃ t : State, exec .bucketRefill s = .next t ∧ t = { s with out := [], guest := t.guest } ∧
        t.guest = { s.guest with table := t.guest.table, refillAt := t.guest.refillAt } ∧
        t.guest.refillAt % 4 = 0 ∧ s.clock.now < t.guest.refillAt ∧ t.guest.refillAt ≤ s.clock.now + 4 ∧
        ∀ i : Fin 64, t.guestAt i =
          (if (s.guestAt i).state = .admitted ∨ (s.guestAt i).state = .exhausted then
            { s.guestAt i with bucket := min ((s.guestAt i).bucket + 1000) 65536 }
           else s.guestAt i)))

/-- GUEST_PACKET_OUT (R148 to R151, R156): what is dropped and counted, and the rate and allowance charges. A packet that
passes them is handed to the router, its charges standing whatever follows (R139): with the carrier link DOWN it is dropped
and counted; it uses the flow that matches its four values, else a new one at the lowest free index, used now; with all 512
in use it is dropped and counted, and with the GUEST queue full too, a flow made for it staying and one used before keeping
its last-used time; otherwise it joins the tail of the GUEST queue and its flow is used now (stated where the carrier link
is busy). An intercept hit (R149): the packet is dropped and counted, the range's touched flag set, INTERCEPT_TOUCHED raised
and the client struck; the third strike evicts it with DROP, and its flows go (R138). -/
def Obligations.OutboundPacketsArePoliced : Prop :=
  (∀ (s : State) (p : GuestPacket), s.start.powered = true → s.start.straps.guestPort = true →
    ((s.serves = false ∨ s.guestOf p.address = none ∨
        (∃ i, s.guestOf p.address = some i ∧
          ((s.guestAt i).state ≠ .admitted ∨ p.data.length < 64 ∨ 1600 < p.data.length))) →
      exec (.guestPacketOut p) s = .next { s with
        out := []
        guest := { s.guest with apHeard := some s.clock.now, policed := min (s.guest.policed + 1) 65535 } }) ∧
    (∀ i, s.serves = true → s.guestOf p.address = some i → (s.guestAt i).state = .admitted → 64 ≤ p.data.length →
      p.data.length ≤ 1600 → (∀ k : Fin 8, s.start.profile.ranges[k.val].covers p.dest = false) →
      ((s.guestAt i).bucket < p.data.length →
        exec (.guestPacketOut p) s = .next { s with
          out := []
          guest := { s.guest with apHeard := some s.clock.now, policed := min (s.guest.policed + 1) 65535 } }) ∧
      (p.data.length ≤ (s.guestAt i).bucket → (s.guestAt i).allowance < p.data.length →
        exec (.guestPacketOut p) s = .next { s with
          out := []
          guest := { s.guest with
            apHeard := some s.clock.now, policed := min (s.guest.policed + 1) 65535
            table := s.guest.table.set i.val
              { s.guestAt i with bucket := (s.guestAt i).bucket - p.data.length, state := .exhausted } } }) ∧
      (∀ (u : State) (mine : GuestFlow → Bool), p.data.length ≤ (s.guestAt i).bucket →
        p.data.length ≤ (s.guestAt i).allowance →
        u = { s with
          out := []
          guest := { s.guest with
            apHeard := some s.clock.now
            table := s.guest.table.set i.val
              { s.guestAt i with
                bucket := (s.guestAt i).bucket - p.data.length
                allowance := (s.guestAt i).allowance - p.data.length } } } →
        mine = (fun f => f.slot == i && f.port == p.port && f.dest == p.dest && f.destPort == p.destPort) →
        (s.uplinkUp = false → exec (.guestPacketOut p) s = .next (guestLost u u.router.guestFlows)) ∧
        (∀ f, s.uplinkUp = true → s.router.guestFlows.find? mine = some f →
          (s.router.guestQueue.length < 128 → s.router.linkFree = false →
            ∃ t : State, exec (.guestPacketOut p) s = .next t ∧
              t.router.flow f.index = some { f with lastUsed := s.clock.now } ∧
              (∀ j, j ≠ f.index → t.router.flow j = s.router.flow j) ∧
              t = guestQueued u t.router.guestFlows f.index p.data) ∧
          (128 ≤ s.router.guestQueue.length → exec (.guestPacketOut p) s = .next (guestLost u u.router.guestFlows))) ∧
        (∀ k, s.uplinkUp = true → s.router.guestFlows.find? mine = none → k < 512 →
          (∀ f ∈ s.router.guestFlows, f.index ≠ k) → (∀ j, j < k → ∃ f ∈ s.router.guestFlows, f.index = j) →
          s.router.linkFree = false ∨ 128 ≤ s.router.guestQueue.length →
          ∃ t : State, exec (.guestPacketOut p) s = .next t ∧
            t.router.flow k = some
              { index := k, slot := i, port := p.port, dest := p.dest, destPort := p.destPort, lastUsed := s.clock.now } ∧
            (∀ j, j ≠ k → t.router.flow j = s.router.flow j) ∧
            t = if s.router.guestQueue.length < 128 then guestQueued u t.router.guestFlows k p.data
              else guestLost u t.router.guestFlows) ∧
        (s.uplinkUp = true → s.router.guestFlows.find? mine = none →
          (∀ k, k < 512 → ∃ f ∈ s.router.guestFlows, f.index = k) →
          exec (.guestPacketOut p) s = .next (guestLost u u.router.guestFlows))))) ∧
  (∀ (s : State) (p : GuestPacket) (i : Fin 64) (k : Fin 8), s.start.powered = true → s.start.straps.guestPort = true →
    s.serves = true → s.guestOf p.address = some i → (s.guestAt i).state = .admitted → 64 ≤ p.data.length →
    p.data.length ≤ 1600 → s.start.profile.ranges[k.val].covers p.dest = true →
    ∃ t : State, exec (.guestPacketOut p) s = .next t ∧ t.flagSet .interceptTouched = true ∧
      (∀ j : Fin 8, t.guest.touched[j.val] = (s.guest.touched[j.val] || s.start.profile.ranges[j.val].covers p.dest)) ∧
      ((s.guestAt i).strikes < 2 → t.guestAt i = { s.guestAt i with strikes := (s.guestAt i).strikes + 1 }) ∧
      (2 ≤ (s.guestAt i).strikes →
        t.guestAt i = { s.guestAt i with state := .evicted, strikes := 3, sessionEnd := none } ∧
        ∀ a, (s.guestAt i).address = some a → .accessPoint (.drop a) ∈ t.out) ∧
      (∀ j : Fin 64, j ≠ i → t.guestAt j = s.guestAt j) ∧
      SaveForNotes [.interceptTouched] { s with
        out := if (s.guestAt i).strikes < 2 then [] else [.accessPoint (.drop p.address)]
        router := if (s.guestAt i).strikes < 2 then s.router else flowsGone s.router fun f => f.slot == i
        guest := { s.guest with
          apHeard := some s.clock.now, policed := min (s.guest.policed + 1) 65535, touched := t.guest.touched
          table := t.guest.table } } t)

/-- DAY_ROLL (R155, R159, R182): before the end of second 86,399 it changes nothing (the model's choice,
notes/assumptions/13.md; the count of 1,000 within a second is its own, notes/assumptions/5.md and 50.md); at it the day
number rises by 1 modulo 65,536 and the second is 0; a CLOSED night is IDLE again with its contents initial but for the
undrained-night count, ended and evicted guests are gone (their entries' buckets at 0, the model's choice,
notes/assumptions/62.md), the others have the day's allowance and no strikes. OPEN_HOURS_EDGE (R144, R154): at an edge where
the closed condition holds every joined client's session has ended with a DROP, and their flows alone have gone (R138);
where it does not, nothing changes. Stated with no day drain under way; what waits is settled. -/
def Obligations.DayAndHoursEndGuests : Prop :=
  (∀ s : State, s.start.powered = true →
    (s.clock.valid = false ∨ s.clock.second ≠ 86399 ∨ s.clock.sub < 1000 → exec .dayRoll s = .next { s with out := [] }) ∧
    (s.clock.valid = true → s.clock.second = 86399 → 1000 ≤ s.clock.sub →
      ∃ t : State, exec .dayRoll s = .next t.settle ∧
        (s.night.state = .closed → t.night = { s.night with
          state := .idle, result := .none, exchange := none, drainOutcome := none, pricesOutcome := none
          timeOutcome := none, drain := Vector.replicate 8 .initial, refused := [], refusedCount := 0, releases := [] }) ∧
        (s.night.state ≠ .closed → t.night = s.night) ∧
        (∀ i : Fin 64,
          ((s.guestAt i).state = .free → t.guestAt i = s.guestAt i) ∧
          ((s.guestAt i).state = .ended ∨ (s.guestAt i).state = .evicted → t.guestAt i = GuestEntry.vacant) ∧
          ((s.guestAt i).state = .admitted ∨ (s.guestAt i).state = .exhausted →
            t.guestAt i = { s.guestAt i with state := .admitted, allowance := 500000000, strikes := 0 })) ∧
        t = { s with
          out := [], clock := { s.clock with second := 0, sub := 0, day := (s.clock.day + 1) % 65536 }, night := t.night
          guest := { s.guest with table := t.guest.table } })) ∧
  (∀ s : State, s.start.powered = true → s.clock.valid = true → s.night.dayDrain = false →
    (s.clock.second = (s.start.profile.openMinute % 1440) * 60 ∨ s.clock.second = (s.start.profile.closeMinute % 1440) * 60) →
    (s.closed = false → exec .openHoursEdge s = .next (State.settle { s with out := [] })) ∧
    (s.closed = true →
      ∃ t : State, exec .openHoursEdge s = .next t.settle ∧
        (∀ i : Fin 64, t.guestAt i =
          (if (s.guestAt i).joined then
            { s.guestAt i with state := .ended, sessionEnd := none, ended := some s.clock.now }
           else s.guestAt i)) ∧
        ((∀ i, (s.guestAt i).joined = false) → t.router = s.router) ∧
        ((∃ i, (s.guestAt i).joined = true) → t.router = flowsGone s.router fun f => (s.guestAt f.slot).joined) ∧
        t.out = (allSlots.filter fun i => (s.guestAt i).joined).map (fun i =>
          .accessPoint (.drop ((s.guestAt i).address.getD 0))) ∧
        t = { s with
          out := t.out
          router := { s.router with
            guestFlows := t.router.guestFlows, guestQueue := t.router.guestQueue, guestDropped := t.router.guestDropped }
          guest := { s.guest with table := t.guest.table } }))

/-- WINDOW_OPEN_TIME (R159, R160): at W0 an IDLE night of a station with the uplink up, a good profile and no exchanging
peer opens CLAIMING, with a 2 s claim wait and a CLAIM in slot 2; without the uplink it opens FOLLOWING. Every joined client
ends with DROP, its flows with it, and the guests' queue deficit is 0 (R132, R154); a day drain ends (R176; stated with no
batch in hand). DEADLINE_1 (R170): in an open window outside DRAIN, and with a batch at work, it sets the D1 mark alone; a
batch that waits for the carrier link is dropped, its station and those after it CUT, NONE where UNKNOWN, and PRICES begins
(stated with no JREL to that station CARRIED). DEADLINE_2 (R170, R173, R174): a CLAIMING or FOLLOWING night is CLOSED
FAILED, the undrained-night count rises and NIGHT_FAILED is raised. An EXCHANGING one besides gives up its batch (R162,
notes/assumptions/32.md; stated for none in hand, or one of a peer of which head office has taken nothing), produces
NIGHT(CLOSED, FAILED), and sends its waiting report as FAILED, or with the link UP makes one, its drain record as it stands
(notes/assumptions/77.md). Outside a window neither deadline does anything. -/
def Obligations.WindowOpensAndDeadlinesFall : Prop :=
  (∀ s : State, s.start.powered = true → s.clock.valid = true → s.clock.second = (s.start.profile.w0 % 1440) * 60 →
    0 < s.start.profile.d1 → s.start.profile.d1 < s.start.profile.d2 → s.start.profile.w0 ≤ 1439 →
    s.night.state = .idle → s.start.profileBad = false → s.router.guestDropped ≤ 65535 →
    ∀ u : State, u = guestsShut { s with out := [] } →
    ∀ night : Night,
      (s.night.dayDrain = false ∧ night = s.night) ∨
        (s.night.dayDrain = true ∧ s.night.batch = none ∧ night = { s.night with
          dayDrain := false, walk := none, attempts := 0, restUntil := some (s.clock.now + 600000) }) →
    (s.uplinkUp = false →
      exec .windowOpenTime s = .next (State.settle { u with
        night := { night with
          state := .following, d1 := false, exchange := none, drain := Vector.replicate 8 .initial
          releases := [] } })) ∧
    (s.uplinkUp = true → s.exchangingPeer = none → s.silenced = false → s.slot 2 = .free → s.line.kept = [] →
      exec .windowOpenTime s = .next (State.settle { u with
        line := { s.line with slots := s.line.slots.set 2 (.held .waiting
          { dest := none, payload := .claim, applied := false } 0 false) }
        night := { night with
          state := .claiming, d1 := false, exchange := none, drain := Vector.replicate 8 .initial
          releases := [], claimUntil := some (s.clock.now + 2000) } }))) ∧
  (∀ s : State, s.start.powered = true → s.clock.valid = true →
    (s.clock.second = ((s.start.profile.w0 + s.start.profile.d1) % 1440) * 60 →
      (s.windowOpen = true → s.night.batch = none → s.night.stage ≠ some .drain →
        exec .deadline1 s = .next (State.settle { s with out := [], night := { s.night with d1 := true } })) ∧
      (∀ b, s.windowOpen = true → s.night.batch = some b → b.phase ≠ .waitLink →
        exec .deadline1 s = .next (State.settle { s with out := [], night := { s.night with d1 := true } })) ∧
      (∀ b, s.windowOpen = true → s.night.batch = some b → b.phase = .waitLink → s.night.dayDrain = false →
        (∀ r ∈ s.night.releases, r.station = b.target → r.carried = false) →
        exec .deadline1 s = .next (State.settle { s with
          out := []
          night := { s.night with
            d1 := true, stage := some .prices, walk := none, batch := none, attempts := 0, drainOutcome := some false
            stallUntil := none, askedAgain := false, newest := none, pricesEnding := none, donePending := false
            waiting := s.night.waiting ++ [.batchReq s.items.applied]
            drain := Vector.ofFn fun i =>
              if i = b.target then { s.night.drain[i.val] with outcome := .cut }
              else if b.target < i then
                { s.night.drain[i.val] with outcome := if i = s.self ∨ s.entry i ≠ none then .cut else .none }
              else s.night.drain[i.val] } })) ∧
      (s.windowOpen = false → exec .deadline1 s = .next (State.settle { s with out := [] }))) ∧
    (s.clock.second = ((s.start.profile.w0 + s.start.profile.d2) % 1440) * 60 →
      (s.night.state = .claiming ∨ s.night.state = .following → s.slot 9 = .free → s.line.kept = [] →
        ∃ t : State, exec .deadline2 s = .next t.settle ∧ t.flagSet .nightFailed = true ∧
          SaveForNotes [.nightFailed] { s with
            out := [], journal := none
            held := { s.held with records := s.held.records.map fun r => { r with inFlight := false } }
            night := { s.night.leaveExchange with
              state := .closed, result := .failed, undrained := min (s.night.undrained + 1) 255 } } t) ∧
      (s.night.state = .idle ∨ s.night.state = .closed →
        exec .deadline2 s = .next (State.settle { s with out := [] }))) ∧
    (∀ slots, s.clock.second = ((s.start.profile.w0 + s.start.profile.d2) % 1440) * 60 → s.night.state = .exchanging →
      s.silenced = false → s.slot 2 = .free → s.slot 9 = .free → s.line.kept = [] →
      ((s.night.batch = none ∧ slots = s.line.slots) ∨
        ∃ b, s.night.batch = some b ∧ b.target ≠ s.self ∧ (∀ c ∈ b.collected, b.taken < c.seq) ∧
          (∀ r ∈ s.night.releases, r.station = b.target → r.carried = false) ∧ s.slot 8 = .free ∧
          slots = s.line.slots.set 8 (placed (some b.target) (.jrel 0))) →
      ∃ t : State, exec .deadline2 s = .next t.settle ∧ t.flagSet .nightFailed = true ∧
        SaveForNotes [.nightFailed] { s with
          out := [], journal := none
          line := { s.line with slots := slots.set 2 (placed none (.night (.closed .failed))) }
          held := { s.held with records := s.held.records.map fun r => { r with inFlight := false } }
          night := { s.night.leaveExchange with
            state := .closed, result := .failed, undrained := min (s.night.undrained + 1) 255
            reports :=
              if s.night.stage = some .report then
                s.night.reports.dropLast ++ (s.night.reports.getLast?.toList.map fun r => { r with result := .failed })
              else if s.uplinkUp = true then s.night.reports ++ [reportOf s .failed]
              else s.night.reports } } t))

/-- The undrained-night count (R174) as the operation that enters CLOSED leaves it: it rises by 1 for PARTIAL or FAILED,
stopping at 255, and is 0 after SUCCESS; a day drain's start and end leave it; the beacon carries it. -/
def Obligations.UndrainedNightsAreCounted : Prop :=
  ∀ s : State, (s.nightClose .success).night.undrained = 0 ∧
    (s.nightClose .part).night.undrained = min (s.night.undrained + 1) 255 ∧
    (s.nightClose .failed).night.undrained = min (s.night.undrained + 1) 255 ∧
    s.dayDrainEnd.night.undrained = s.night.undrained ∧ s.testDayDrain.night.undrained = s.night.undrained ∧
    s.beacon.undrained = s.night.undrained

/-- TAKE_CLAIM (R161, R162): a claimer follows a lower-numbered one and its claim wait ends; a higher-numbered one changes
nothing; an exchanging station answers NIGHT(HELD); any other night state ignores it. NIGHT_HELD (R160, R161, R162, R171): a
claimer follows the sender; a follower takes it as its exchange station; an exchanging station yields to a lower-numbered
sender, a JREL of the taken-through number, or 0, going to the peer whose batch is in hand, the drain record left as it is,
its JRELs known no more (notes/assumptions/66.md), a report of its REPORT stage that still waits going with the exchange
(notes/assumptions/34.md); it answers a higher-numbered one with NIGHT(HELD); a CLOSED night ignores it; an IDLE one with
the Clock valid ends the joined clients (R154) and opens FOLLOWING the sender, the D1 mark clear (notes/assumptions/88.md),
with no day drain, or CLAIMING where the takeover test holds (R172), the exchange station kept meanwhile
(notes/assumptions/40.md). A CLAIM still in slot 2 as its claimer follows is withdrawn: one WAITING goes, one SENDING stays.
NIGHT_CLOSED (R162, R173, R174): a follower, a claimer, which first follows the sender (R161, notes/assumptions/41.md), and
an exchanging station, which gives its batch up likewise, close with the result named, SUCCESS setting the undrained count
to 0 and the others raising it, FAILED raising NIGHT_FAILED (R170, whoever closed it, notes/assumptions/33.md); an IDLE or
CLOSED night ignores it. CLAIM_WAIT_EXPIRY (R161, R163): a claimer still CLAIMING after 2 s exchanges, its own exchange
station, at CONNECT while the carrier link is DOWN, its refused list empty, its drain record as it was
(notes/assumptions/37.md), and NIGHT(HELD) produced; SILENCED it follows with no exchange station. Takeover (R172): a
follower whose exchange station becomes ABSENT claims where the D1 mark is clear, the profile good and the uplink up, that
station kept as its exchange station meanwhile, and else goes on following. -/
def Obligations.ClaimsNameTheExchangeStation : Prop :=
  (∀ (s : State) (n : Station) (rest : List Received), NightWaits s n .claim rest →
    (s.night.state = .claiming → n < s.self → (∀ f, (s.slot 2).frame = some f → f.payload = .claim) → s.line.kept = [] →
      exec .takeClaim s = .next (State.settle { nightTaken s rest with
        line := { s.line with nightInbox := rest, slots := s.line.slots.set 2 (claimGone (s.slot 2)) }
        night := { s.night with state := .following, claimUntil := none } })) ∧
    (s.night.state = .claiming → s.self ≤ n → exec .takeClaim s = .next (State.settle (nightTaken s rest))) ∧
    (s.night.state = .exchanging → s.silenced = false → s.slot 2 = .free → s.line.kept = [] →
      exec .takeClaim s = .next (State.settle { nightTaken s rest with
        line := { s.line with
          nightInbox := rest
          slots := s.line.slots.set 2 (.held .waiting { dest := none, payload := .night .held, applied := false } 0
            false) } })) ∧
    (s.night.state ∈ [.idle, .following, .closed] → exec .takeClaim s = .next (State.settle (nightTaken s rest)))) ∧
  (∀ (s : State) (n : Station) (rest : List Received), NightWaits s n (.night .held) rest →
    (s.night.state = .following →
      exec .nightHeld s = .next (State.settle { nightTaken s rest with
        night := { s.night with exchange := some n } })) ∧
    (∀ line, s.night.state = .exchanging → n < s.self → GivesUp s line →
      exec .nightHeld s = .next (State.settle { nightTaken s rest with
        line := { line with nightInbox := rest }
        night := { s.night.leaveExchange with
          state := .following, exchange := some n, releases := []
          reports := if s.night.stage = some .report then s.night.reports.dropLast else s.night.reports } })) ∧
    (s.night.state = .exchanging → s.self < n → s.silenced = false → s.slot 2 = .free → s.line.kept = [] →
      exec .nightHeld s = .next (State.settle { nightTaken s rest with
        line := { s.line with
          nightInbox := rest, slots := s.line.slots.set 2 (placed none (.night .held)) } })) ∧
    (s.night.state = .closed → exec .nightHeld s = .next (State.settle (nightTaken s rest))) ∧
    (s.night.state = .idle → s.clock.valid = false → exec .nightHeld s = .next (State.settle (nightTaken s rest))) ∧
    (∀ u, s.night.state = .idle → s.clock.valid = true → s.night.dayDrain = false → s.router.guestDropped ≤ 65535 →
      u = guestsShut (nightTaken s rest) →
      (s.uplinkUp = false ∨ s.start.profileBad = true ∨ s.absent n = false →
        exec .nightHeld s = .next (State.settle { u with night := nightFollowing s (some n) false })) ∧
      (s.uplinkUp = true → s.start.profileBad = false → s.absent n = true → s.silenced = false → s.slot 2 = .free →
        s.line.kept = [] →
        exec .nightHeld s = .next (State.settle { u with
          line := { s.line with nightInbox := rest, slots := s.line.slots.set 2 (placed none .claim) }
          night := { nightClaiming s with exchange := some n } })))) ∧
  (∀ (s : State) (n : Station) (rest : List Received), NightWaits s n (.night .held) rest → s.night.state = .claiming →
    (∀ f, (s.slot 2).frame = some f → f.payload = .claim) → s.line.kept = [] →
    exec .nightHeld s = .next (State.settle { nightTaken s rest with
      line := { s.line with nightInbox := rest, slots := s.line.slots.set 2 (claimGone (s.slot 2)) }
      night := { s.night with state := .following, claimUntil := none, exchange := some n } })) ∧
  (∀ (s : State) (line : LinePort) (n : Station) (r : NightResult) (rest : List Received),
    NightWaits s n (.night (.closed r)) rest → r ≠ .none →
    ((s.night.state = .following ∧ line = s.line) ∨ (s.night.state = .exchanging ∧ GivesUp s line) ∨
        (s.night.state = .claiming ∧ (∀ f, (s.slot 2).frame = some f → f.payload = .claim) ∧
          line = { s.line with slots := s.line.slots.set 2 (claimGone (s.slot 2)) }) →
      s.slot 9 = .free → s.line.kept = [] →
      ∃ t : State, exec .nightClosed s = .next t.settle ∧ (r = .failed → t.flagSet .nightFailed = true) ∧
        SaveForNotes [.nightFailed] { s with
          out := [], journal := none
          line := { line with nightInbox := rest }
          held := { s.held with records := s.held.records.map fun x => { x with inFlight := false } }
          night := { s.night.leaveExchange with
            state := .closed, result := r
            exchange := if s.night.state = .claiming then some n else s.night.exchange
            reports := if s.night.state = .exchanging ∧ s.night.stage = some .report then s.night.reports.dropLast
              else s.night.reports
            releases := if s.night.state = .exchanging then [] else s.night.releases
            undrained := if r = .success then 0 else min (s.night.undrained + 1) 255 } } t) ∧
    (s.night.state = .idle ∨ s.night.state = .closed →
      exec .nightClosed s = .next (State.settle (nightTaken s rest)))) ∧
  (∀ (s : State) (w : Nat), s.start.powered = true → s.night.state = .claiming → s.night.claimUntil = some w →
    w ≤ s.clock.now →
    (s.silenced = true →
      exec .claimWaitExpiry s = .next (State.settle { s with
        out := [], night := { s.night with state := .following, claimUntil := none, exchange := none } })) ∧
    (s.silenced = false → s.uplinkUp = false → s.slot 2 = .free → s.line.kept = [] →
      exec .claimWaitExpiry s = .next (State.settle { s with
        out := []
        line := { s.line with slots := s.line.slots.set 2 (.held .waiting
          { dest := none, payload := .night .held, applied := false } 0 false) }
        night := { s.night.leaveExchange with
          state := .exchanging, stage := some .connect, exchange := some s.self, refused := [], refusedCount := 0
          drainOutcome := none, pricesOutcome := none, timeOutcome := none } }))) ∧
  (∀ (s : State) (n : Station) (e : PeerEntry), s.start.powered = true → s.entry n = some e → e.presence = .quiet →
    e.lastHeard + 10000 ≤ s.clock.now → s.items.serving = none → s.journal = none → s.night.batch = none →
    s.night.state = .following → s.night.exchange = some n → s.silenced = false → s.slot 2 = .free → s.line.kept = [] →
    (s.night.d1 = false → s.start.profileBad = false → s.uplinkUp = true →
      exec (.entryAbsent n) s = .next (State.settle (State.rosterRecalc { s with
        out := []
        roster := { s.roster with entries := s.roster.entries.set n.val (some { e with presence := .absent }) }
        line := { s.line with slots := s.line.slots.set 2 (placed none .claim) }
        night := { s.night with state := .claiming, claimUntil := some (s.clock.now + 2000) } }))) ∧
    (s.night.d1 = true ∨ s.start.profileBad = true ∨ s.uplinkUp = false →
      exec (.entryAbsent n) s = .next (State.settle (State.rosterRecalc { s with
        out := []
        roster := { s.roster with entries := s.roster.entries.set n.val (some { e with presence := .absent }) } }))))

/-- NIGHT_PRICES_DONE (R41, R171): with nothing in the Item inbox before it, a version above A asks for a repair, one at or
below A does nothing; with frames before it, it waits for them. Stated outside CLAIMING. NIGHT_TIME and the setting of the
Clock (R171, R182 to R184): within one day number an equal time changes nothing; a setting forward that passes no time of
interest, or a setting back, puts the time in place and passes none; the milliseconds within the second start anew (the
model's choice, notes/assumptions/11.md). An invalid Clock becomes valid (R183): no time is passed; an IDLE night before
deadline 2 opens FOLLOWING (R160; stated with the uplink not up). A setting of a valid Clock (R184): one that passes W0
opens an IDLE night, FOLLOWING without the uplink and else CLAIMING; one to the next day that passes midnight makes a day
roll; one to an earlier day, up to 32,768 back, passes no time; one that passes the close minute ends every joined client
with DROP, with their flows alone (R154; whatever the new time, notes/assumptions/12.md). Where the closed condition holds
after a setting, or a window opens, every joined client ends likewise (R144, R154). All stated outside CLAIMING with no day
drain. -/
def Obligations.PricesDoneAndTimeAreTaken : Prop :=
  (∀ (s : State) (n : Station) (v : Nat) (rest : List Received), NightWaits s n (.night (.pricesDone v)) rest →
    s.night.state ≠ .claiming →
    (s.line.itemInbox = [] → v ≤ s.items.applied →
      exec .nightPricesDone s = .next (State.settle (nightTaken s rest))) ∧
    (s.line.itemInbox = [] → s.items.applied < v → s.anyPresent = false →
      exec .nightPricesDone s = .next (State.settle { nightTaken s rest with
        items := { s.items with repairMark := true } })) ∧
    (s.line.itemInbox ≠ [] →
      exec .nightPricesDone s = .next (State.settle { nightTaken s rest with
        items := { s.items with
          doneWaits := s.items.doneWaits ++ [{ version := v, frames := s.line.itemInbox.length }] } }))) ∧
  (∀ (s : State) (n : Station) (day second : Nat) (rest : List Received), NightWaits s n (.night (.time day second)) rest →
    s.night.state ≠ .claiming → s.clock.valid = true → s.clock.day < 65536 → day < 65536 → second < 86400 →
    s.clock.second < 86400 →
    (day = s.clock.day → second = s.clock.second → exec .nightTime s = .next (State.settle (nightTaken s rest))) ∧
    (day = s.clock.day → second < s.clock.second → s.night.dayDrain = false → s.router.guestDropped ≤ 65535 →
      exec .nightTime s = .next (State.settle (guestsByHours { nightTaken s rest with
        clock := { s.clock with second := second, sub := 0 } }))) ∧
    (day = s.clock.day → s.clock.second < second → s.night.dayDrain = false → s.router.guestDropped ≤ 65535 →
      (∀ e : TimeEvent, ¬ (s.clock.second < s.timeOf e ∧ s.timeOf e ≤ second)) →
      exec .nightTime s = .next (State.settle (guestsByHours { nightTaken s rest with
        clock := { s.clock with second := second, sub := 0 } })))) ∧
  (∀ (s : State) (n : Station) (day second : Nat) (rest : List Received), NightWaits s n (.night (.time day second)) rest →
    s.night.state ≠ .claiming → s.clock.valid = false → s.night.dayDrain = false →
    s.router.guestDropped ≤ 65535 →
    (s.night.state ≠ .idle ∨
        s.start.profile.d2 * 60 ≤ (second + 86400 - s.start.profile.w0 * 60) % 86400 →
      exec .nightTime s = .next (State.settle (guestsByHours { nightTaken s rest with
        clock := { s.clock with valid := true, day := day, second := second, sub := 0 } }))) ∧
    (s.night.state = .idle → (second + 86400 - s.start.profile.w0 * 60) % 86400 < s.start.profile.d2 * 60 →
      s.uplinkUp = false →
      exec .nightTime s = .next (State.settle { guestsShut (nightTaken s rest) with
        clock := { s.clock with valid := true, day := day, second := second, sub := 0 }
        night := nightFollowing s s.exchangingPeer
          (decide (s.start.profile.d1 * 60 ≤ (second + 86400 - s.start.profile.w0 * 60) % 86400)) }))) ∧
  (∀ (s : State) (n : Station) (day second : Nat) (rest : List Received), NightWaits s n (.night (.time day second)) rest →
    s.night.state ≠ .claiming → s.clock.valid = true → s.clock.day < 65536 → day < 65536 → second < 86400 →
    s.clock.second < 86400 → s.night.dayDrain = false →
    (day = s.clock.day → s.clock.second < s.start.profile.w0 * 60 → s.start.profile.w0 * 60 ≤ second →
      second < (s.start.profile.w0 + s.start.profile.d1) * 60 → s.start.profile.d1 < s.start.profile.d2 →
      (∀ e : TimeEvent, e ≠ .w0 → ¬ (s.clock.second < s.timeOf e ∧ s.timeOf e ≤ second)) →
      s.router.guestDropped ≤ 65535 → s.night.state = .idle → s.start.profileBad = false →
      (s.uplinkUp = false →
        exec .nightTime s = .next (State.settle { guestsShut (nightTaken s rest) with
          clock := { s.clock with second := second, sub := 0 }
          night := nightFollowing s none false })) ∧
      (s.uplinkUp = true → s.exchangingPeer = none → s.silenced = false → s.slot 2 = .free → s.line.kept = [] →
        exec .nightTime s = .next (State.settle { guestsShut (nightTaken s rest) with
          clock := { s.clock with second := second, sub := 0 }
          line := { s.line with nightInbox := rest, slots := s.line.slots.set 2 (placed none .claim) }
          night := nightClaiming s }))) ∧
    (day = s.clock.day + 1 → second < s.clock.second → (∀ i, (s.guestAt i).state = .free) →
      (∀ e : TimeEvent, e ≠ .midnight → s.timeOf e ≤ s.clock.second ∧ second < s.timeOf e) →
      exec .nightTime s = .next (State.settle { nightTaken s rest with
        clock := { s.clock with day := day, second := second, sub := 0 }
        night := if s.night.state = .closed then
          { s.night with
            state := .idle, result := .none, exchange := none, drainOutcome := none, pricesOutcome := none
            timeOutcome := none, drain := Vector.replicate 8 .initial, refused := [], refusedCount := 0
            releases := [] }
          else s.night })) ∧
    ((∃ k, 1 ≤ k ∧ k ≤ 32768 ∧ s.clock.day = (day + k) % 65536) → s.router.guestDropped ≤ 65535 →
      exec .nightTime s = .next (State.settle (guestsByHours { nightTaken s rest with
        clock := { s.clock with day := day, second := second, sub := 0 } }))) ∧
    (day = s.clock.day → s.clock.second < s.timeOf .closeEdge → s.timeOf .closeEdge ≤ second →
      (∀ e : TimeEvent, e ≠ .closeEdge → ¬ (s.clock.second < s.timeOf e ∧ s.timeOf e ≤ second)) →
      ∃ t : State, exec .nightTime s = .next t.settle ∧
        (∀ i : Fin 64, t.guestAt i =
          if (s.guestAt i).joined then sessionEnded (s.guestAt i) s.clock.now else s.guestAt i) ∧
        ((∀ i, (s.guestAt i).joined = false) → t.router = s.router) ∧
        ((∃ i, (s.guestAt i).joined = true) → t.router = flowsGone s.router fun f => (s.guestAt f.slot).joined) ∧
        t.out = (allSlots.filter fun i => (s.guestAt i).joined).map (fun i =>
          .accessPoint (.drop ((s.guestAt i).address.getD 0))) ∧
        t = { nightTaken s rest with
          out := t.out, clock := { s.clock with second := second, sub := 0 }
          router := { s.router with
            guestFlows := t.router.guestFlows, guestQueue := t.router.guestQueue
            guestDropped := t.router.guestDropped }
          guest := { s.guest with table := t.guest.table } }))

/-- SEGMENT_WAIT_EXPIRY (R165, R166): a collection whose segment wait has run out ends; with complete records its JPUTs are
produced in order and it awaits them. With nothing collected it is a failed attempt, not counted where the link was lost,
and the next JPULL follows; the third in a row finishes the station GIVEN_UP. Before its time neither wait here changes
anything (notes/assumptions/13.md). JTAKEN (R166): it raises the taken-through number of the batch of its station, while
JPUTs still wait too (notes/assumptions/35.md), and never lowers it; below the newest JPUT the batch goes on awaiting; for
another station it changes nothing; at the newest JPUT the batch is released, the attempts are 0, and of a peer target the
JREL goes to slot 8 with the next JPULL behind it. TAKEN_WAIT_EXPIRY (R166): with none of the batch taken it is a failed
attempt; with the oldest taken the batch is released; the walk goes on to what comes next (for a lost target after deadline
1 notes/assumptions/83.md). A JSEG of the target (R165): the expected segment makes its record grow or complete and starts
the wait anew, the last record ends the collection; one not expected breaks it, and a broken one goes on to its end by the
wait (notes/assumptions/64.md); EMPTY, after collected records too (notes/assumptions/36.md), finishes the station, and the
walk goes on to the next or, past station 7, to PRICES (R164). The first segment, and EMPTY, show what CARRIED JRELs removed
there (R101, R164); so do other ends, by the model's choice (notes/assumptions/66.md). A branch with no peer but ABSENT ones
and an empty journal here is walked at once: EMPTY here, ABSENT, and NONE where UNKNOWN, complete unless one is ABSENT
(R164), the counts of an earlier exchange of the night kept (notes/assumptions/37.md). -/
def Obligations.BatchWaitsAndJtaken : Prop :=
  (∀ (s : State) (b : Batch) (d : Nat), s.start.powered = true → s.night.batch = some b → b.phase = .collecting d →
    (d ≤ s.clock.now → b.collected ≠ [] →
      exec .segmentWaitExpiry s = .next (State.settle { s with
        out := []
        night := { s.night with
          batch := some { b with phase := .putting, part := none }
          waiting := s.night.waiting ++ b.collected.map fun c => .jput b.target c.seq c.data } })) ∧
    (s.clock.now < d → exec .segmentWaitExpiry s = .next (State.settle { s with out := [] }))) ∧
  (∀ (s : State) (b : Batch) (d station seq : Nat) (newest : Collected), s.start.powered = true →
    s.start.straps.uplink = true → s.night.batch = some b → b.phase = .awaiting d →
    (station = b.target.val → b.collected.getLast? = some newest → max b.taken seq < newest.seq →
      exec (.jtaken station seq) s = .next (State.settle { s with
        out := [], router := { s.router with carrierHeard := some s.clock.now }
        night := { s.night with batch := some { b with taken := max b.taken seq } } })) ∧
    (station ≠ b.target.val →
      exec (.jtaken station seq) s = .next (State.settle { s with
        out := [], router := { s.router with carrierHeard := some s.clock.now } }))) ∧
  (∀ (s : State) (b : Batch) (d : Nat), s.start.powered = true → s.night.batch = some b → b.phase = .awaiting d →
    (s.clock.now < d → exec .takenWaitExpiry s = .next (State.settle { s with out := [] })) ∧
    (d ≤ s.clock.now → (∀ c ∈ b.collected, b.taken < c.seq) →
      exec .takenWaitExpiry s = .next (State.settle (State.nextBatch { s with
        out := []
        night := { s.night with
          batch := none, attempts := if b.linkLost then s.night.attempts else s.night.attempts + 1 } }
        b.target b.targetLost))) ∧
    (d ≤ s.clock.now → (∃ c ∈ b.collected, c.seq ≤ b.taken) →
      exec .takenWaitExpiry s = .next (State.settle (State.nextBatch
        ((State.release { s with out := [] } b).onNight fun n => { n with batch := none, attempts := 0 }) b.target
        b.targetLost)))) ∧
  (∀ (s : State) (b : Batch) (d : Nat), s.start.powered = true → s.night.batch = some b → b.phase = .collecting d →
    d ≤ s.clock.now → b.collected = [] → s.night.d1 = false → s.night.dayDrain = false → b.targetLost = false →
    b.target ≠ s.self →
    (s.night.attempts < 2 ∨ (b.linkLost = true ∧ s.night.attempts < 3) → s.uplinkUp = true → s.silenced = false →
      s.slot 8 = .free → s.line.kept = [] →
      exec .segmentWaitExpiry s = .next (State.settle { s with
        out := []
        line := { s.line with slots := s.line.slots.set 8 (placed (some b.target) (.jpull 16)) }
        night := { s.night with
          attempts := if b.linkLost then s.night.attempts else s.night.attempts + 1
          walk := some b.target, batch := some (freshBatch b.target) } })) ∧
    (∀ counted, s.night.attempts = 2 → b.linkLost = false → b.target = 7 → counted = s.night.releasesShown 7 none →
      exec .segmentWaitExpiry s = .next (State.settle { s with
        out := []
        night := { counted with
          drain := counted.drain.set 7 { counted.drain[7] with outcome := .givenUp }, attempts := 0, walk := none
          batch := none, drainOutcome := some false, stage := some .prices, stallUntil := none
          askedAgain := false, newest := none, pricesEnding := none, donePending := false
          waiting := s.night.waiting ++ [.batchReq s.items.applied] } }))) ∧
  (∀ (s : State) (b : Batch) (seq : Nat) (newest : Collected), s.start.powered = true → s.start.straps.uplink = true →
    s.night.batch = some b → (b.phase = .putting ∨ ∃ d, b.phase = .awaiting d) → b.collected.getLast? = some newest →
    newest.seq ≤ max b.taken seq →
    b.target ≠ s.self → b.targetLost = false → s.night.d1 = false → s.night.dayDrain = false → s.router.linkUp = true →
    s.silenced = false → s.slot 8 = .free → s.line.kept = [] →
    exec (.jtaken b.target.val seq) s = .next (State.settle { s with
      out := [], router := { s.router with carrierHeard := some s.clock.now }
      line := { s.line with
        slots := s.line.slots.set 8 (placed (some b.target) (.jrel (max b.taken seq)))
        kept := [.frame { dest := some b.target, payload := .jpull 16, applied := false }] }
      night := { s.night with
        attempts := 0, walk := some b.target, batch := some (freshBatch b.target)
        releases := s.night.releases ++ [{
          station := b.target, seq := max b.taken seq, carried := false
          records := (b.collected.filter fun c => c.seq ≤ max b.taken seq).map fun c =>
            (c.seq, c.data.length / 32) }] } })) ∧
  (∀ (claim : BitVec 6) (bytes : List Byte) (s : State) (n : Station) (g : Jseg) (b : Batch) (d : Nat) (old : List Byte)
    (grown : List Collected) (counted : Night), grown = b.collected ++ [{ seq := g.seq, data := old ++ g.data }] →
    counted = (if g.empty = true then s.night.releasesShown n none
      else if b.collected = [] ∧ b.part = none then s.night.releasesShown n (some g.seq) else s.night) →
    s.start.powered = true → s.line.sfc < 256 → goodReceive claim bytes = true →
    readFrame claim bytes = some (n, some s.self, .jseg g) → n ≠ s.self → s.night.batch = some b → b.target = n →
    b.phase = .collecting d → b.broken = false →
    (g.empty = false →
      ((b.part = none ∧ old = [] ∧ g.index = 0 ∧ (∀ c, b.collected.getLast? = some c → g.seq = c.seq + 1)) ∨
          (∃ p, b.part = some p ∧ old = p.data ∧ g.seq = p.seq ∧ g.index = p.next) →
        (g.lastSeg = false →
          exec (.frameReceive claim bytes false) s = .next (State.settle { heardGood s with
            night := { counted with batch := some { b with
              phase := .collecting (s.clock.now + 2000)
              part := some { seq := g.seq, next := g.index + 1, data := old ++ g.data } } } })) ∧
        (g.lastSeg = true → g.lastRecord = false →
          exec (.frameReceive claim bytes false) s = .next (State.settle { heardGood s with
            night := { counted with batch := some { b with
              phase := .collecting (s.clock.now + 2000), part := none, collected := grown } } })) ∧
        (g.lastSeg = true → g.lastRecord = true →
          exec (.frameReceive claim bytes false) s = .next (State.settle { heardGood s with
            night := { counted with
              batch := some { b with
                phase := .putting, part := none, collected := grown }
              waiting := s.night.waiting ++ grown.map fun c => .jput n c.seq c.data } }))) ∧
      ((b.part = none ∧ (g.index ≠ 0 ∨ ∃ c, b.collected.getLast? = some c ∧ g.seq ≠ c.seq + 1)) ∨
          (∃ p, b.part = some p ∧ (g.seq ≠ p.seq ∨ g.index ≠ p.next)) →
        exec (.frameReceive claim bytes false) s = .next (State.settle { heardGood s with
          night := { s.night with batch := some { b with
            phase := .collecting (s.clock.now + 2000), part := none, broken := true } } }))) ∧
    (g.empty = true → s.night.dayDrain = false → s.night.d1 = false →
      (∀ (m : Station) (e : PeerEntry), m.val = n.val + 1 → m ≠ s.self → s.entry m = some e → e.presence ≠ .absent →
        s.uplinkUp = true → s.silenced = false → s.slot 8 = .free → s.line.kept = [] →
        exec (.frameReceive claim bytes false) s = .next (State.settle { heardGood s with
          line := { (heardGood s).line with slots := s.line.slots.set 8 (placed (some m) (.jpull 16)) }
          night := { counted with
            drain := counted.drain.set n.val { counted.drain[n.val] with outcome := .empty }
            attempts := 0, walk := some m, batch := some (freshBatch m) } })) ∧
      (n = 7 →
        ∃ t : State, exec (.frameReceive claim bytes false) s = .next t.settle ∧
          (t.night.drainOutcome = some true ↔
            ∀ m : Station, m ≠ 7 → s.night.drain[m.val].outcome = .none ∨ s.night.drain[m.val].outcome = .empty) ∧
          t.night.drainOutcome ≠ none ∧
          t = { heardGood s with night := { counted with
            drain := counted.drain.set 7 { counted.drain[7] with outcome := .empty }, attempts := 0, walk := none
            batch := none, drainOutcome := t.night.drainOutcome, stage := some .prices, stallUntil := none
            askedAgain := false, newest := none, pricesEnding := none, donePending := false
            waiting := s.night.waiting ++ [.batchReq s.items.applied] } }))) ∧
  (∀ (s : State) (w : Nat), s.start.powered = true → s.night.state = .claiming → s.night.claimUntil = some w →
    w ≤ s.clock.now → s.silenced = false → s.uplinkUp = true → s.night.d1 = false → s.night.dayDrain = false →
    s.slot 2 = .free → s.slot 9 = .free → s.line.kept = [] → s.held.records = [] →
    (∀ n e, s.entry n = some e → e.presence = .absent) →
    ∃ t : State, exec .claimWaitExpiry s = .next t.settle ∧
      (∀ n : Station, t.night.drain[n.val] = { s.night.drain[n.val] with
        outcome := if n = s.self then .empty else if s.entry n = none then .none else .absent }) ∧
      (t.night.drainOutcome = some true ↔ ∀ n : Station, n ≠ s.self → s.entry n = none) ∧
      t.night.drainOutcome ≠ none ∧
      t = { s with
        out := [], journal := some { puller := .self, cursor := none, sentThrough := none }
        line := { s.line with slots := s.line.slots.set 2 (placed none (.night .held)) }
        night := { s.night.leaveExchange with
          state := .exchanging, stage := some .prices, exchange := some s.self, refused := [], refusedCount := 0
          drainOutcome := t.night.drainOutcome, pricesOutcome := none, timeOutcome := none, drain := t.night.drain
          waiting := s.night.waiting ++ [.batchReq s.items.applied] } })

/-- BATCH_REC in PRICES (R27, R167): the set is applied, its PRICE frame placed whatever applying it did, and the stall wait
begins anew; at any other time it is ignored. Stated for a stale set and for one that makes a new record (R29). BATCH_END
and STALL_WAIT_EXPIRY in PRICES (R167): with A at L or above PRICES will end complete; below it BATCH_REQ is placed once
more, the second time it will end incomplete; the stall wait's end makes it incomplete. Stated while a PRICE frame's outcome
is still open, so that the stage goes on. OFFICE_TIME and TIME_WAIT_EXPIRY (R168, R169): an exchanging station in TIME takes
the time once and ends TIME complete; after 60 s without one it ends it incomplete; either way REPORT is entered and a
report waits, SUCCESS where all three stages ended complete and else PARTIAL, each part taken from the block that R169 names
as it stands then, the counts too (the model's choice, notes/assumptions/86.md). Outside an exchange, or a second time, the
time is ignored. Stated for the time the Clock already shows. TIME_WAIT_EXPIRY before its time changes nothing (the model's
choice, notes/assumptions/13.md). A report that finds places joins the SERVICE queue: the counts are 0, NIGHT(CLOSED) with
its result is produced, behind a NIGHT(TIME) in slot 2, the night is CLOSED, and the undrained-night count rises for PARTIAL
and is 0 for SUCCESS (R169, R174); with no places it waits (R129). Stated while the carrier link takes nothing. -/
def Obligations.PricesAndTimeStagesEnd : Prop :=
  (∀ (s : State) (p : PriceSet) (r : ItemRecord), s.start.powered = true → s.start.straps.uplink = true →
    (s.night.state = .exchanging → s.night.stage = some .prices → s.night.pricesEnding = none →
      s.items.find p.code = some r → p.version ≤ r.version → s.slot 4 = .free → s.line.kept = [] →
      exec (.batchRec p) s = .next (State.settle { s with
        out := [], router := { s.router with carrierHeard := some s.clock.now }, items := s.items.markSeen p.version
        line := { s.line with slots := s.line.slots.set 4 (.held .waiting
          { dest := none, payload := .price p, applied := false } 0 false) }
        night := { s.night with stallUntil := some (s.clock.now + 60000) } })) ∧
    (s.night.state ≠ .exchanging ∨ s.night.stage ≠ some .prices →
      exec (.batchRec p) s = .next (State.settle { s with
        out := [], router := { s.router with carrierHeard := some s.clock.now } }))) ∧
  (∀ (s : State) (p : PriceSet) (b : PriceState), s.start.powered = true → s.start.straps.uplink = true →
    s.night.state = .exchanging → s.night.stage = some .prices → s.night.pricesEnding = none →
    s.items.find p.code = none → setInRange p → p.body = some b → s.items.records.length < 16384 →
    s.items.pull = none → s.held.bound p.code = [] → s.slot 4 = .free → s.line.kept = [] →
    ∃ t : State, exec (.batchRec p) s = .next t.settle ∧
      t.items.find p.code = some {
        code := p.code, kind := p.kind, taxClass := p.taxClass, blocked := false, overdue := false, version := p.version
        book := mended p.kind b, charge := mended p.kind b, pending := none, holders := 0#8 } ∧
      (∀ code, code ≠ p.code → t.items.find code = s.items.find code) ∧
      t = { s with
        out := [], router := { s.router with carrierHeard := some s.clock.now }
        items := { s.items.markSeen p.version with records := t.items.records }
        line := { s.line with slots := s.line.slots.set 4 (placed none (.price p)) }
        night := { s.night with stallUntil := some (s.clock.now + 60000) } }) ∧
  (∀ (s : State) (l : Nat), s.start.powered = true → s.start.straps.uplink = true → s.night.state = .exchanging →
    s.night.stage = some .prices → s.night.pricesEnding = none → s.night.donePending = false →
    s.holdsFrame Frame.isPrice = true →
    (l ≤ s.items.applied ∨ s.night.askedAgain = true →
      exec (.batchEnd l) s = .next (State.settle { s with
        out := [], router := { s.router with carrierHeard := some s.clock.now }
        night := { s.night with
          newest := some l, stallUntil := none, pricesEnding := some (decide (l ≤ s.items.applied)) } })) ∧
    (s.items.applied < l → s.night.askedAgain = false →
      exec (.batchEnd l) s = .next (State.settle { s with
        out := [], router := { s.router with carrierHeard := some s.clock.now }
        night := { s.night with
          newest := some l, stallUntil := none, askedAgain := true
          waiting := s.night.waiting ++ [.batchReq s.items.applied] } })) ∧
    (∀ w, s.night.stallUntil = some w → w ≤ s.clock.now →
      exec .stallWaitExpiry s = .next (State.settle { s with
        out := [], night := { s.night with stallUntil := none, pricesEnding := some false } }))) ∧
  (∀ (s : State), s.start.powered = true →
    (s.start.straps.uplink = true → s.night.state = .exchanging → s.night.stage = some .time → s.night.timeTaken = false →
      s.clock.valid = true → s.slot 2 = .free → s.line.kept = [] → s.silenced = false →
      exec (.officeTime s.clock.day s.clock.second) s = .next (State.settle { s with
        out := [], router := { s.router with carrierHeard := some s.clock.now }
        line := { s.line with
          slots := s.line.slots.set 2 (placed none (.night (.time s.clock.day s.clock.second))) }
        night := { s.night with
          timeTaken := true, timeOutcome := some true, stage := some .report, timeUntil := none
          reports := s.night.reports ++ [reportOf s
            (if s.night.drainOutcome = some true ∧ s.night.pricesOutcome = some true then .success else .part)] } })) ∧
    (∀ day second, s.start.straps.uplink = true → s.night.state ≠ .exchanging ∨ s.night.timeTaken = true →
      exec (.officeTime day second) s = .next (State.settle { s with
        out := [], router := { s.router with carrierHeard := some s.clock.now } })) ∧
    (∀ w, s.night.timeUntil = some w →
      (s.clock.now < w → exec .timeWaitExpiry s = .next (State.settle { s with out := [] })) ∧
      (w ≤ s.clock.now →
        exec .timeWaitExpiry s = .next (State.settle { s with
          out := []
          night := { s.night with
            timeOutcome := some false, stage := some .report, timeUntil := none
            reports := s.night.reports ++ [reportOf s .part] } })))) ∧
  (∀ (s : State) (w : Nat) (rep : Report), s.start.powered = true → s.night.timeUntil = some w → w ≤ s.clock.now →
    s.night.state = .exchanging → s.night.waiting = [] → s.night.reports = [] → s.router.backlog = [] →
    (s.router.linkUp && s.router.linkFree) = false → s.silenced = false → s.slot 2 = .free → s.slot 9 = .free →
    s.line.kept = [] → s.roster.gateway ≠ some s.self → s.night.stage = some .time → rep = reportOf s .part →
    (s.router.serviceQueue.length + rep.parts.length ≤ 16 →
      exec .timeWaitExpiry s = .next { s with
        out := [], journal := none
        held := { s.held with records := s.held.records.map fun x => { x with inFlight := false } }
        line := { s.line with slots := s.line.slots.set 2 (placed none (.night (.closed .part))) }
        router := { s.router with
          serviceQueue := s.router.serviceQueue ++ rep.parts, unknownAnswers := 0, guestDropped := 0, notesLost := 0
          malformed := 0 }
        guest := { s.guest with refused := 0, policed := 0 }
        night := { s.night.leaveExchange with
          state := .closed, result := .part, timeOutcome := some false
          undrained := min (s.night.undrained + 1) 255 } }) ∧
    (16 < s.router.serviceQueue.length + rep.parts.length →
      exec .timeWaitExpiry s = .next { s with
        out := []
        night := { s.night with
          timeOutcome := some false, stage := some .report, timeUntil := none, reports := [rep] } })) ∧
  (∀ (s : State) (rep : Report), s.start.powered = true → s.start.straps.uplink = true → s.night.state = .exchanging →
    s.night.stage = some .time → s.night.timeTaken = false → s.clock.valid = true → s.night.drainOutcome = some true →
    s.night.pricesOutcome = some true → s.night.waiting = [] → s.night.reports = [] → s.router.backlog = [] →
    (s.router.linkUp && s.router.linkFree) = false → s.silenced = false → s.slot 2 = .free → s.slot 9 = .free →
    s.line.kept = [] → s.roster.gateway ≠ some s.self → rep = reportOf s .success →
    s.router.serviceQueue.length + rep.parts.length ≤ 16 →
    exec (.officeTime s.clock.day s.clock.second) s = .next { s with
      out := [], journal := none
      held := { s.held with records := s.held.records.map fun x => { x with inFlight := false } }
      line := { s.line with
        slots := s.line.slots.set 2 (placed none (.night (.time s.clock.day s.clock.second)))
        kept := [.frame { dest := none, payload := .night (.closed .success), applied := false }] }
      router := { s.router with
        serviceQueue := s.router.serviceQueue ++ rep.parts, unknownAnswers := 0, guestDropped := 0, notesLost := 0
        malformed := 0, carrierHeard := some s.clock.now }
      guest := { s.guest with refused := 0, policed := 0 }
      night := { s.night.leaveExchange with
        state := .closed, result := .success, timeOutcome := some true, undrained := 0 } })

/-- DAY_DRAIN_REST_END and the day drain's call (R175): the rest-until time is cleared when it has passed, and the
conditions are tested: the role held, an undrained night here or at a PRESENT peer, a valid clock within the hours, no
window open, a journal at the high mark, and no drain under way or rested. It begins (R175, R176) at the lowest station at
the high mark, this one or PRESENT: stated for a peer, which is sent a JPULL, the drain record empty, every joined client
ended with DROP and the guests' deficit 0 (R132, R154). It ends when the time of day leaves open hours (R176): the batch in
hand is given up as on yielding, a JREL going to its target with the taken-through number, or 0 where head office has taken
none of it (R162), and the rest-until time is 600 s on. The joined clients end too (R154). Stated for a batch of a peer. A
setting of the Clock (R184): past the open minute one begins there, and past the close minute or W0 after it ends again,
with the guests shut, the window open at W0 (R160), and the 600 s of rest, the tests being made at each time passed
(notes/assumptions/12.md); its JPULL stays, the JREL of 0 behind it. NIGHT_HELD that opens the window ends one too, the
model's choice (notes/assumptions/87.md; stated with no batch in hand). -/
def Obligations.DayDrainIsCalled : Prop :=
  (∀ s : State,
    (∀ w, s.start.powered = true → s.night.restUntil = some w → w ≤ s.clock.now →
      exec .dayDrainRestEnd s = .next (State.settle { s with out := [], night := { s.night with restUntil := none } })) ∧
    (s.drainCalled = true ↔
      s.roster.gateway = some s.self ∧
      (1 ≤ s.night.undrained ∨ ∃ n e, s.entry n = some e ∧ e.presence = .present ∧ 1 ≤ e.beacon.undrained) ∧
      s.clock.valid = true ∧ s.openHours = true ∧ s.windowOpen = false ∧
      (18432 ≤ s.held.used ∨ ∃ n, s.present n = true ∧ 18432 ≤ s.figure n) ∧ s.night.dayDrain = false ∧
      (∀ w, s.night.restUntil = some w → w ≤ s.clock.now))) ∧
  (∀ (s : State) (w : Nat) (n : Station), s.start.powered = true → s.night.restUntil = some w → w ≤ s.clock.now →
    s.night.state ≠ .exchanging → s.night.waiting = [] → s.night.reports = [] → s.router.backlog = [] →
    s.router.linkUp = true → s.router.linkFree = false → s.drainCalled = true → s.router.guestDropped ≤ 65535 →
    s.silenced = false → s.slot 8 = .free → s.line.kept = [] → s.uplinkUp = true →
    n ≠ s.self → s.present n = true → 18432 ≤ s.figure n →
    (∀ m : Station, m < n → (m ≠ s.self ∧ s.present m = false) ∨ s.figure m < 18432) →
    exec .dayDrainRestEnd s = .next { guestsShut { s with out := [] } with
      line := { s.line with slots := s.line.slots.set 8 (placed (some n) (.jpull 16)) }
      night := { s.night with
        dayDrain := true, restUntil := none, attempts := 0, drain := Vector.replicate 8 .initial, releases := []
        walk := some n, batch := some (freshBatch n) } }) ∧
  (∀ (s : State) (b : Batch), s.start.powered = true → s.clock.valid = true → s.night.dayDrain = true →
    s.openHours = false →
    (s.clock.second = (s.start.profile.openMinute % 1440) * 60 ∨ s.clock.second = (s.start.profile.closeMinute % 1440) * 60) →
    s.router.guestDropped ≤ 65535 → s.night.batch = some b → b.target ≠ s.self → s.silenced = false →
    s.line.kept = [] → (∀ r ∈ s.night.releases, r.station = b.target → r.carried = false) →
    ((∀ c ∈ b.collected, b.taken < c.seq) →
      exec .openHoursEdge s = .next (State.settle { guestsEnded { s with out := [] } with
        line := journalSent s b.target (.jrel 0)
        night := { s.night with
          dayDrain := false, walk := none, batch := none, attempts := 0, restUntil := some (s.clock.now + 600000) } })) ∧
    ((∃ c ∈ b.collected, c.seq ≤ b.taken) →
      exec .openHoursEdge s = .next (State.settle { guestsEnded { s with out := [] } with
        line := journalSent s b.target (.jrel b.taken)
        night := { s.night with
          dayDrain := false, walk := none, batch := none, attempts := 0, restUntil := some (s.clock.now + 600000)
          releases := s.night.releases ++ [releaseNote b] } }))) ∧
  (∀ (s : State) (n m : Station) (second : Nat) (rest : List Received),
    NightWaits s m (.night (.time s.clock.day second)) rest → s.night.state = .idle → s.clock.valid = true →
    s.clock.day < 65536 → second < 86400 → s.clock.second < s.timeOf .openEdge → s.timeOf .openEdge ≤ second →
    s.drainCalledAt (s.timeOf .openEdge) = true → s.router.guestDropped ≤ 65535 → s.silenced = false →
    s.slot 8 = .free → s.line.kept = [] → s.uplinkUp = true → n ≠ s.self → s.present n = true → 18432 ≤ s.figure n →
    (∀ k : Station, k < n → (k ≠ s.self ∧ s.present k = false) ∨ s.figure k < 18432) →
    ∀ line : LinePort, line = { s.line with
      nightInbox := rest, slots := s.line.slots.set 8 (placed (some n) (.jpull 16))
      kept := [.frame { dest := some n, payload := .jrel 0, applied := false }] } →
    (s.timeOf .openEdge < s.timeOf .closeEdge → s.timeOf .closeEdge ≤ second →
      (∀ e : TimeEvent, e ≠ .openEdge → e ≠ .closeEdge → ¬ (s.clock.second < s.timeOf e ∧ s.timeOf e ≤ second)) →
      exec .nightTime s = .next (State.settle { guestsShut (nightTaken s rest) with
        clock := { s.clock with second := second, sub := 0 }, line := line
        night := { s.night with
          dayDrain := false, walk := none, batch := none, attempts := 0, restUntil := some (s.clock.now + 600000)
          drain := Vector.replicate 8 .initial, releases := [] } })) ∧
    (s.timeOf .openEdge < s.timeOf .w0 → s.timeOf .w0 ≤ second → s.start.profile.w0 < 1440 →
      second < (s.start.profile.w0 + s.start.profile.d1) * 60 → s.start.profile.d1 < s.start.profile.d2 →
      (∀ e : TimeEvent, e ≠ .openEdge → e ≠ .w0 → ¬ (s.clock.second < s.timeOf e ∧ s.timeOf e ≤ second)) →
      s.start.profileBad = false → s.exchangingPeer = none → s.slot 2 = .free →
      exec .nightTime s = .next (State.settle { guestsShut (nightTaken s rest) with
        clock := { s.clock with second := second, sub := 0 }
        line := { line with slots := line.slots.set 2 (placed none .claim) }
        night := { nightClaiming s with
          dayDrain := false, walk := none, batch := none, attempts := 0
          restUntil := some (s.clock.now + 600000) } }))) ∧
  (∀ (s : State) (n : Station) (rest : List Received), NightWaits s n (.night .held) rest → s.night.state = .idle →
    s.clock.valid = true → s.night.dayDrain = true → s.night.batch = none → s.router.guestDropped ≤ 65535 →
    s.uplinkUp = false ∨ s.start.profileBad = true ∨ s.absent n = false →
    exec .nightHeld s = .next (State.settle { guestsShut (nightTaken s rest) with
      night := { nightFollowing s (some n) false with
        dayDrain := false, walk := none, attempts := 0, restUntil := some (s.clock.now + 600000) } }))
end

