-- ==== Sys2Proof/Laws/Exec.lean ====
section
/-! SUPPORT. One lemma per command: on a station with power its meaning is its block's own step on the state with the port outputs of
the command before cleared. -/

namespace Sys2Proof.Machine

theorem run_powered {s : State} (f : State → State) (hp : s.start.powered = true) : run f s = .next (f { s with out := [] }) := by
  simp only [run, live, hp, if_true]

theorem exec_lineRest (s : State) (hp : s.start.powered = true) :
    exec .lineRest s = .next (State.doLineRest { s with out := [] }) :=
  run_powered _ hp

theorem exec_attemptEnd (how : AttemptEnd) (s : State) (hp : s.start.powered = true) :
    exec (.attemptEnd how) s = .next (State.doAttemptEnd how { s with out := [] }) :=
  run_powered _ hp

theorem exec_frameReceive (claim : BitVec 6) (bytes : List Byte) (marked : Bool) (s : State) (hp : s.start.powered = true) :
    exec (.frameReceive claim bytes marked) s = .next (State.doFrameReceive claim bytes marked { s with out := [] }) :=
  run_powered _ hp

theorem exec_quietSpell (s : State) (hp : s.start.powered = true) :
    exec .quietSpell s = .next (State.doQuietSpell { s with out := [] }) :=
  run_powered _ hp

theorem exec_beaconDue (s : State) (hp : s.start.powered = true) :
    exec .beaconDue s = .next (State.doBeaconDue { s with out := [] }) :=
  run_powered _ hp

theorem exec_entryQuiet (peer : Station) (s : State) (hp : s.start.powered = true) :
    exec (.entryQuiet peer) s = .next (State.doEntryQuiet peer { s with out := [] }) :=
  run_powered _ hp

theorem exec_entryAbsent (peer : Station) (s : State) (hp : s.start.powered = true) :
    exec (.entryAbsent peer) s = .next (State.doEntryAbsent peer { s with out := [] }) :=
  run_powered _ hp

theorem exec_takePrice (s : State) (hp : s.start.powered = true) :
    exec .takePrice s = .next (State.doTakePrice { s with out := [] }) :=
  run_powered _ hp

theorem exec_takeShown (s : State) (hp : s.start.powered = true) :
    exec .takeShown s = .next (State.doTakeShown { s with out := [] }) :=
  run_powered _ hp

theorem exec_takeHold (s : State) (hp : s.start.powered = true) :
    exec .takeHold s = .next (State.doTakeHold { s with out := [] }) :=
  run_powered _ hp

theorem exec_watchExpiry (s : State) (hp : s.start.powered = true) :
    exec .watchExpiry s = .next (State.doWatchExpiry { s with out := [] }) :=
  run_powered _ hp

theorem exec_takeChunk (s : State) (hp : s.start.powered = true) :
    exec .takeChunk s = .next (State.doTakeChunk { s with out := [] }) :=
  run_powered _ hp

theorem exec_pullTimerExpiry (s : State) (hp : s.start.powered = true) :
    exec .pullTimerExpiry s = .next (State.doPullTimer { s with out := [] }) :=
  run_powered _ hp

theorem exec_laneFrameBad (lane : Lane) (s : State) (hp : s.start.powered = true) :
    exec (.laneFrameBad lane) s = .next (State.doFrameBad lane { s with out := [] }) :=
  run_powered _ hp

theorem exec_openBasket (r : Request) (s : State) (hp : s.start.powered = true) :
    exec (.openBasket r) s = .next (State.doOpen r { s with out := [] }) :=
  run_powered _ hp

theorem exec_scan (r : Request) (item count : Nat) (s : State) (hp : s.start.powered = true) :
    exec (.scan r item count) s = .next (State.doPrice r .unit item count { s with out := [] }) :=
  run_powered _ hp

theorem exec_weigh (r : Request) (item grams : Nat) (s : State) (hp : s.start.powered = true) :
    exec (.weigh r item grams) s = .next (State.doPrice r .weighed item grams { s with out := [] }) :=
  run_powered _ hp

theorem exec_voidLine (r : Request) (line : Nat) (s : State) (hp : s.start.powered = true) :
    exec (.voidLine r line) s = .next (State.doVoid r line { s with out := [] }) :=
  run_powered _ hp

theorem exec_ask (r : Request) (item : Nat) (s : State) (hp : s.start.powered = true) :
    exec (.ask r item) s = .next (State.doAsk r item { s with out := [] }) :=
  run_powered _ hp

theorem exec_total (r : Request) (s : State) (hp : s.start.powered = true) :
    exec (.total r) s = .next (State.doTotal r { s with out := [] }) :=
  run_powered _ hp

theorem exec_resume (r : Request) (s : State) (hp : s.start.powered = true) :
    exec (.resume r) s = .next (State.doResume r { s with out := [] }) :=
  run_powered _ hp

theorem exec_cash (r : Request) (amount : Nat) (s : State) (hp : s.start.powered = true) :
    exec (.cash r amount) s = .next (State.doCash r amount { s with out := [] }) :=
  run_powered _ hp

theorem exec_card (r : Request) (amount : Nat) (s : State) (hp : s.start.powered = true) :
    exec (.card r amount) s = .next (State.doCard r amount { s with out := [] }) :=
  run_powered _ hp

theorem exec_cancel (r : Request) (s : State) (hp : s.start.powered = true) :
    exec (.cancel r) s = .next (State.doCancel r { s with out := [] }) :=
  run_powered _ hp

theorem exec_close (r : Request) (s : State) (hp : s.start.powered = true) :
    exec (.close r) s = .next (State.doClose r { s with out := [] }) :=
  run_powered _ hp

theorem exec_authTimerExpiry (lane : Lane) (s : State) (hp : s.start.powered = true) :
    exec (.authTimerExpiry lane) s = .next (State.doAuthTimer lane { s with out := [] }) :=
  run_powered _ hp

theorem exec_takeAutha (s : State) (hp : s.start.powered = true) :
    exec .takeAutha s = .next (State.settle (State.doTakeAutha { s with out := [] })) :=
  run_powered _ hp

theorem exec_lateEntryExpiry (lane : Lane) (s : State) (hp : s.start.powered = true) :
    exec (.lateEntryExpiry lane) s = .next (State.doLateExpiry lane { s with out := [] }) :=
  run_powered _ hp

theorem exec_laneReset (lane : Lane) (s : State) (hp : s.start.powered = true) :
    exec (.laneReset lane) s = .next (State.doLaneReset lane { s with out := [] }) :=
  run_powered _ hp

theorem exec_takeJpull (s : State) (hp : s.start.powered = true) :
    exec .takeJpull s = .next (State.takeJpull { s with out := [] }) :=
  run_powered _ hp

theorem exec_takeJrel (s : State) (hp : s.start.powered = true) :
    exec .takeJrel s = .next (State.doTakeJrel { s with out := [] }) :=
  run_powered _ hp

theorem exec_labelAck (radioId : Nat) (battery : Fin 4) (s : State) (hp : s.start.powered = true) :
    exec (.labelAck radioId battery) s = .next (State.doLabelAck radioId battery { s with out := [] }) :=
  run_powered _ hp

theorem exec_updateTimeout (s : State) (hp : s.start.powered = true) :
    exec .updateTimeout s = .next (State.doUpdateTimeout { s with out := [] }) :=
  run_powered _ hp

theorem exec_notBeforeExpiry (index : Nat) (s : State) (hp : s.start.powered = true) :
    exec (.notBeforeExpiry index) s = .next (State.doNotBefore index { s with out := [] }) :=
  run_powered _ hp

theorem exec_bind (r : Request) (radioId item : Nat) (s : State) (hp : s.start.powered = true) :
    exec (.bind r radioId item) s = .next (State.doBind r radioId item { s with out := [] }) :=
  run_powered _ hp

theorem exec_unbind (r : Request) (radioId : Nat) (s : State) (hp : s.start.powered = true) :
    exec (.unbind r radioId) s = .next (State.doUnbind r radioId { s with out := [] }) :=
  run_powered _ hp

theorem exec_release (r : Request) (item : Nat) (s : State) (hp : s.start.powered = true) :
    exec (.release r item) s = .next (State.doRelease r item { s with out := [] }) :=
  run_powered _ hp

theorem exec_label (r : Request) (radioId : Nat) (s : State) (hp : s.start.powered = true) :
    exec (.label r radioId) s = .next (State.doLabel r radioId { s with out := [] }) :=
  run_powered _ hp

theorem exec_clear (r : Request) (s : State) (hp : s.start.powered = true) :
    exec (.clear r) s = .next (State.doClear r { s with out := [] }) :=
  run_powered _ hp

theorem exec_link (up : Bool) (s : State) (hp : s.start.powered = true) :
    exec (.link up) s = .next (State.doLink up { s with out := [] }) :=
  run_powered _ hp

theorem exec_carrierPresenceLost (s : State) (hp : s.start.powered = true) :
    exec .carrierPresenceLost s = .next (State.doPresenceLost { s with out := [] }) :=
  run_powered _ hp

theorem exec_carrierFree (s : State) (hp : s.start.powered = true) :
    exec .carrierFree s = .next (State.doCarrierFree { s with out := [] }) :=
  run_powered _ hp

theorem exec_uplinkMalformed (s : State) (hp : s.start.powered = true) :
    exec .uplinkMalformed s = .next (State.doMalformed { s with out := [] }) :=
  run_powered _ hp

theorem exec_takeAuthq (s : State) (hp : s.start.powered = true) :
    exec .takeAuthq s = .next (State.settle (State.doTakeAuthq { s with out := [] })) :=
  run_powered _ hp

theorem exec_officeAuthAns (tag : Nat) (decision : OfficeDecision) (s : State) (hp : s.start.powered = true) :
    exec (.officeAuthAns tag decision) s = .next (State.doOfficeAns tag decision { s with out := [] }) :=
  run_powered _ hp

theorem exec_authEntryExpiry (tag : Nat) (s : State) (hp : s.start.powered = true) :
    exec (.authEntryExpiry tag) s = .next (State.doAuthEntryExpiry tag { s with out := [] }) :=
  run_powered _ hp

theorem exec_flowIdleExpiry (index : Nat) (s : State) (hp : s.start.powered = true) :
    exec (.flowIdleExpiry index) s = .next (State.doFlowIdle index { s with out := [] }) :=
  run_powered _ hp

theorem exec_guestPacketIn (port : Nat) (data : List Byte) (s : State) (hp : s.start.powered = true) :
    exec (.guestPacketIn port data) s = .next (State.doPacketIn port data { s with out := [] }) :=
  run_powered _ hp

theorem exec_assoc (address : Nat) (s : State) (hp : s.start.powered = true) :
    exec (.assoc address) s = .next (State.doAssoc address { s with out := [] }) :=
  run_powered _ hp

theorem exec_disassoc (address : Nat) (s : State) (hp : s.start.powered = true) :
    exec (.disassoc address) s = .next (State.doDisassoc address { s with out := [] }) :=
  run_powered _ hp

theorem exec_guestPacketOut (packet : GuestPacket) (s : State) (hp : s.start.powered = true) :
    exec (.guestPacketOut packet) s = .next (State.doPacketOut packet { s with out := [] }) :=
  run_powered _ hp

theorem exec_apReset (s : State) (hp : s.start.powered = true) :
    exec .apReset s = .next (State.doApReset { s with out := [] }) :=
  run_powered _ hp

theorem exec_status (s : State) (hp : s.start.powered = true) :
    exec .status s = .next (State.doStatus { s with out := [] }) :=
  run_powered _ hp

theorem exec_guestFrameBad (s : State) (hp : s.start.powered = true) :
    exec .guestFrameBad s = .next (State.doGuestBad { s with out := [] }) :=
  run_powered _ hp

theorem exec_apLinkLost (s : State) (hp : s.start.powered = true) :
    exec .apLinkLost s = .next (State.doApLost { s with out := [] }) :=
  run_powered _ hp

theorem exec_bucketRefill (s : State) (hp : s.start.powered = true) :
    exec .bucketRefill s = .next (State.doRefill { s with out := [] }) :=
  run_powered _ hp

theorem exec_sessionEnd (slot : Fin 64) (s : State) (hp : s.start.powered = true) :
    exec (.sessionEnd slot) s = .next (State.doSessionEnd slot { s with out := [] }) :=
  run_powered _ hp

theorem exec_dayRoll (s : State) (hp : s.start.powered = true) :
    exec .dayRoll s = .next (State.doDayRoll { s with out := [] }) :=
  run_powered _ hp

theorem exec_windowOpenTime (s : State) (hp : s.start.powered = true) :
    exec .windowOpenTime s = .next (State.doWindowOpen { s with out := [] }) :=
  run_powered _ hp

theorem exec_deadline1 (s : State) (hp : s.start.powered = true) :
    exec .deadline1 s = .next (State.doDeadline1 { s with out := [] }) :=
  run_powered _ hp

theorem exec_deadline2 (s : State) (hp : s.start.powered = true) :
    exec .deadline2 s = .next (State.doDeadline2 { s with out := [] }) :=
  run_powered _ hp

theorem exec_openHoursEdge (s : State) (hp : s.start.powered = true) :
    exec .openHoursEdge s = .next (State.doHoursEdge { s with out := [] }) :=
  run_powered _ hp

theorem exec_takeClaim (s : State) (hp : s.start.powered = true) :
    exec .takeClaim s = .next (State.doTakeClaim { s with out := [] }) :=
  run_powered _ hp

theorem exec_nightHeld (s : State) (hp : s.start.powered = true) :
    exec .nightHeld s = .next (State.doNightHeld { s with out := [] }) :=
  run_powered _ hp

theorem exec_nightPricesDone (s : State) (hp : s.start.powered = true) :
    exec .nightPricesDone s = .next (State.doNightDone { s with out := [] }) :=
  run_powered _ hp

theorem exec_nightTime (s : State) (hp : s.start.powered = true) :
    exec .nightTime s = .next (State.doNightTime { s with out := [] }) :=
  run_powered _ hp

theorem exec_nightClosed (s : State) (hp : s.start.powered = true) :
    exec .nightClosed s = .next (State.doNightClosed { s with out := [] }) :=
  run_powered _ hp

theorem exec_claimWaitExpiry (s : State) (hp : s.start.powered = true) :
    exec .claimWaitExpiry s = .next (State.settle (State.claimExpiry { s with out := [] })) :=
  run_powered _ hp

theorem exec_segmentWaitExpiry (s : State) (hp : s.start.powered = true) :
    exec .segmentWaitExpiry s = .next (State.settle (State.segmentExpiry { s with out := [] })) :=
  run_powered _ hp

theorem exec_jtaken (station seq : Nat) (s : State) (hp : s.start.powered = true) :
    exec (.jtaken station seq) s = .next (State.doJtaken station seq { s with out := [] }) :=
  run_powered _ hp

theorem exec_takenWaitExpiry (s : State) (hp : s.start.powered = true) :
    exec .takenWaitExpiry s = .next (State.settle (State.takenExpiry { s with out := [] })) :=
  run_powered _ hp

theorem exec_batchRec (set : PriceSet) (s : State) (hp : s.start.powered = true) :
    exec (.batchRec set) s = .next (State.doBatchRec set { s with out := [] }) :=
  run_powered _ hp

theorem exec_batchEnd (newest : Nat) (s : State) (hp : s.start.powered = true) :
    exec (.batchEnd newest) s = .next (State.doBatchEnd newest { s with out := [] }) :=
  run_powered _ hp

theorem exec_stallWaitExpiry (s : State) (hp : s.start.powered = true) :
    exec .stallWaitExpiry s = .next (State.settle (State.stallExpiry { s with out := [] })) :=
  run_powered _ hp

theorem exec_officeTime (day second : Nat) (s : State) (hp : s.start.powered = true) :
    exec (.officeTime day second) s = .next (State.doOfficeTime day second { s with out := [] }) :=
  run_powered _ hp

theorem exec_timeWaitExpiry (s : State) (hp : s.start.powered = true) :
    exec .timeWaitExpiry s = .next (State.settle (State.timeExpiry { s with out := [] })) :=
  run_powered _ hp

theorem exec_dayDrainRestEnd (s : State) (hp : s.start.powered = true) :
    exec .dayDrainRestEnd s = .next (State.doRestEnd { s with out := [] }) :=
  run_powered _ hp

theorem exec_resetPin (pins : Straps) (heldKept : Bool) (s : State) (hp : s.start.powered = true) :
    exec (.resetPin pins heldKept) s = .next (State.doResetPin pins heldKept { s with out := [] }) :=
  run_powered _ hp

theorem exec_profileReadDone (bytes : Option (List Byte)) (s : State) (hp : s.start.powered = true) :
    exec (.profileReadDone bytes) s = .next (State.doProfileRead bytes { s with out := [] }) :=
  run_powered _ hp

theorem exec_listenWaitExpiry (s : State) (hp : s.start.powered = true) :
    exec .listenWaitExpiry s = .next (State.doListenExpiry { s with out := [] }) :=
  run_powered _ hp

theorem exec_unknownRequest (lane : Lane) (number : Nat) (s : State) (hp : s.start.powered = true) :
    exec (.unknownRequest lane number) s = .next (State.doUnknown lane number { s with out := [] }) :=
  run_powered _ hp

theorem exec_laneAnswerSent (lane : Lane) (s : State) (hp : s.start.powered = true) :
    exec (.laneAnswerSent lane) s = .next (State.doAnswerSent lane { s with out := [] }) :=
  run_powered _ hp

theorem exec_laneBreakEnd (lane : Lane) (s : State) (hp : s.start.powered = true) :
    exec (.laneBreakEnd lane) s = .next (State.doBreakEnd lane { s with out := [] }) :=
  run_powered _ hp

theorem exec_powerLoss (s : State) (hp : s.start.powered = true) :
    exec .powerLoss s = .next (State.doPowerLoss { s with out := [] }) :=
  run_powered _ hp

end Sys2Proof.Machine
end

