-- ==== Sys2Proof/Laws/State.lean ====
section
/-! SUPPORT. One lemma per field per update of State, each true by `rfl`, so that no proof unfolds a record update. -/

namespace Sys2Proof.Machine

@[simp] theorem State.onLine_line (s : State) (f : LinePort → LinePort) : (s.onLine f).line = f s.line := rfl
@[simp] theorem State.onLine_roster (s : State) (f : LinePort → LinePort) : (s.onLine f).roster = s.roster := rfl
@[simp] theorem State.onLine_items (s : State) (f : LinePort → LinePort) : (s.onLine f).items = s.items := rfl
@[simp] theorem State.onLine_lanes (s : State) (f : LinePort → LinePort) : (s.onLine f).lanes = s.lanes := rfl
@[simp] theorem State.onLine_held (s : State) (f : LinePort → LinePort) : (s.onLine f).held = s.held := rfl
@[simp] theorem State.onLine_journal (s : State) (f : LinePort → LinePort) : (s.onLine f).journal = s.journal := rfl
@[simp] theorem State.onLine_labels (s : State) (f : LinePort → LinePort) : (s.onLine f).labels = s.labels := rfl
@[simp] theorem State.onLine_router (s : State) (f : LinePort → LinePort) : (s.onLine f).router = s.router := rfl
@[simp] theorem State.onLine_guest (s : State) (f : LinePort → LinePort) : (s.onLine f).guest = s.guest := rfl
@[simp] theorem State.onLine_night (s : State) (f : LinePort → LinePort) : (s.onLine f).night = s.night := rfl
@[simp] theorem State.onLine_clock (s : State) (f : LinePort → LinePort) : (s.onLine f).clock = s.clock := rfl
@[simp] theorem State.onLine_faults (s : State) (f : LinePort → LinePort) : (s.onLine f).faults = s.faults := rfl
@[simp] theorem State.onLine_start (s : State) (f : LinePort → LinePort) : (s.onLine f).start = s.start := rfl
@[simp] theorem State.onLine_out (s : State) (f : LinePort → LinePort) : (s.onLine f).out = s.out := rfl
@[simp] theorem State.onLine_pending (s : State) (f : LinePort → LinePort) : (s.onLine f).pending = s.pending := rfl

@[simp] theorem State.onRoster_line (s : State) (f : Roster → Roster) : (s.onRoster f).line = s.line := rfl
@[simp] theorem State.onRoster_roster (s : State) (f : Roster → Roster) : (s.onRoster f).roster = f s.roster := rfl
@[simp] theorem State.onRoster_items (s : State) (f : Roster → Roster) : (s.onRoster f).items = s.items := rfl
@[simp] theorem State.onRoster_lanes (s : State) (f : Roster → Roster) : (s.onRoster f).lanes = s.lanes := rfl
@[simp] theorem State.onRoster_held (s : State) (f : Roster → Roster) : (s.onRoster f).held = s.held := rfl
@[simp] theorem State.onRoster_journal (s : State) (f : Roster → Roster) : (s.onRoster f).journal = s.journal := rfl
@[simp] theorem State.onRoster_labels (s : State) (f : Roster → Roster) : (s.onRoster f).labels = s.labels := rfl
@[simp] theorem State.onRoster_router (s : State) (f : Roster → Roster) : (s.onRoster f).router = s.router := rfl
@[simp] theorem State.onRoster_guest (s : State) (f : Roster → Roster) : (s.onRoster f).guest = s.guest := rfl
@[simp] theorem State.onRoster_night (s : State) (f : Roster → Roster) : (s.onRoster f).night = s.night := rfl
@[simp] theorem State.onRoster_clock (s : State) (f : Roster → Roster) : (s.onRoster f).clock = s.clock := rfl
@[simp] theorem State.onRoster_faults (s : State) (f : Roster → Roster) : (s.onRoster f).faults = s.faults := rfl
@[simp] theorem State.onRoster_start (s : State) (f : Roster → Roster) : (s.onRoster f).start = s.start := rfl
@[simp] theorem State.onRoster_out (s : State) (f : Roster → Roster) : (s.onRoster f).out = s.out := rfl
@[simp] theorem State.onRoster_pending (s : State) (f : Roster → Roster) : (s.onRoster f).pending = s.pending := rfl

@[simp] theorem State.onItems_line (s : State) (f : ItemTable → ItemTable) : (s.onItems f).line = s.line := rfl
@[simp] theorem State.onItems_roster (s : State) (f : ItemTable → ItemTable) : (s.onItems f).roster = s.roster := rfl
@[simp] theorem State.onItems_items (s : State) (f : ItemTable → ItemTable) : (s.onItems f).items = f s.items := rfl
@[simp] theorem State.onItems_lanes (s : State) (f : ItemTable → ItemTable) : (s.onItems f).lanes = s.lanes := rfl
@[simp] theorem State.onItems_held (s : State) (f : ItemTable → ItemTable) : (s.onItems f).held = s.held := rfl
@[simp] theorem State.onItems_journal (s : State) (f : ItemTable → ItemTable) : (s.onItems f).journal = s.journal := rfl
@[simp] theorem State.onItems_labels (s : State) (f : ItemTable → ItemTable) : (s.onItems f).labels = s.labels := rfl
@[simp] theorem State.onItems_router (s : State) (f : ItemTable → ItemTable) : (s.onItems f).router = s.router := rfl
@[simp] theorem State.onItems_guest (s : State) (f : ItemTable → ItemTable) : (s.onItems f).guest = s.guest := rfl
@[simp] theorem State.onItems_night (s : State) (f : ItemTable → ItemTable) : (s.onItems f).night = s.night := rfl
@[simp] theorem State.onItems_clock (s : State) (f : ItemTable → ItemTable) : (s.onItems f).clock = s.clock := rfl
@[simp] theorem State.onItems_faults (s : State) (f : ItemTable → ItemTable) : (s.onItems f).faults = s.faults := rfl
@[simp] theorem State.onItems_start (s : State) (f : ItemTable → ItemTable) : (s.onItems f).start = s.start := rfl
@[simp] theorem State.onItems_out (s : State) (f : ItemTable → ItemTable) : (s.onItems f).out = s.out := rfl
@[simp] theorem State.onItems_pending (s : State) (f : ItemTable → ItemTable) : (s.onItems f).pending = s.pending := rfl

@[simp] theorem State.onHeld_line (s : State) (f : HeldMemory → HeldMemory) : (s.onHeld f).line = s.line := rfl
@[simp] theorem State.onHeld_roster (s : State) (f : HeldMemory → HeldMemory) : (s.onHeld f).roster = s.roster := rfl
@[simp] theorem State.onHeld_items (s : State) (f : HeldMemory → HeldMemory) : (s.onHeld f).items = s.items := rfl
@[simp] theorem State.onHeld_lanes (s : State) (f : HeldMemory → HeldMemory) : (s.onHeld f).lanes = s.lanes := rfl
@[simp] theorem State.onHeld_held (s : State) (f : HeldMemory → HeldMemory) : (s.onHeld f).held = f s.held := rfl
@[simp] theorem State.onHeld_journal (s : State) (f : HeldMemory → HeldMemory) : (s.onHeld f).journal = s.journal := rfl
@[simp] theorem State.onHeld_labels (s : State) (f : HeldMemory → HeldMemory) : (s.onHeld f).labels = s.labels := rfl
@[simp] theorem State.onHeld_router (s : State) (f : HeldMemory → HeldMemory) : (s.onHeld f).router = s.router := rfl
@[simp] theorem State.onHeld_guest (s : State) (f : HeldMemory → HeldMemory) : (s.onHeld f).guest = s.guest := rfl
@[simp] theorem State.onHeld_night (s : State) (f : HeldMemory → HeldMemory) : (s.onHeld f).night = s.night := rfl
@[simp] theorem State.onHeld_clock (s : State) (f : HeldMemory → HeldMemory) : (s.onHeld f).clock = s.clock := rfl
@[simp] theorem State.onHeld_faults (s : State) (f : HeldMemory → HeldMemory) : (s.onHeld f).faults = s.faults := rfl
@[simp] theorem State.onHeld_start (s : State) (f : HeldMemory → HeldMemory) : (s.onHeld f).start = s.start := rfl
@[simp] theorem State.onHeld_out (s : State) (f : HeldMemory → HeldMemory) : (s.onHeld f).out = s.out := rfl
@[simp] theorem State.onHeld_pending (s : State) (f : HeldMemory → HeldMemory) : (s.onHeld f).pending = s.pending := rfl

@[simp] theorem State.onLabels_line (s : State) (f : LabelUnit → LabelUnit) : (s.onLabels f).line = s.line := rfl
@[simp] theorem State.onLabels_roster (s : State) (f : LabelUnit → LabelUnit) : (s.onLabels f).roster = s.roster := rfl
@[simp] theorem State.onLabels_items (s : State) (f : LabelUnit → LabelUnit) : (s.onLabels f).items = s.items := rfl
@[simp] theorem State.onLabels_lanes (s : State) (f : LabelUnit → LabelUnit) : (s.onLabels f).lanes = s.lanes := rfl
@[simp] theorem State.onLabels_held (s : State) (f : LabelUnit → LabelUnit) : (s.onLabels f).held = s.held := rfl
@[simp] theorem State.onLabels_journal (s : State) (f : LabelUnit → LabelUnit) : (s.onLabels f).journal = s.journal := rfl
@[simp] theorem State.onLabels_labels (s : State) (f : LabelUnit → LabelUnit) : (s.onLabels f).labels = f s.labels := rfl
@[simp] theorem State.onLabels_router (s : State) (f : LabelUnit → LabelUnit) : (s.onLabels f).router = s.router := rfl
@[simp] theorem State.onLabels_guest (s : State) (f : LabelUnit → LabelUnit) : (s.onLabels f).guest = s.guest := rfl
@[simp] theorem State.onLabels_night (s : State) (f : LabelUnit → LabelUnit) : (s.onLabels f).night = s.night := rfl
@[simp] theorem State.onLabels_clock (s : State) (f : LabelUnit → LabelUnit) : (s.onLabels f).clock = s.clock := rfl
@[simp] theorem State.onLabels_faults (s : State) (f : LabelUnit → LabelUnit) : (s.onLabels f).faults = s.faults := rfl
@[simp] theorem State.onLabels_start (s : State) (f : LabelUnit → LabelUnit) : (s.onLabels f).start = s.start := rfl
@[simp] theorem State.onLabels_out (s : State) (f : LabelUnit → LabelUnit) : (s.onLabels f).out = s.out := rfl
@[simp] theorem State.onLabels_pending (s : State) (f : LabelUnit → LabelUnit) : (s.onLabels f).pending = s.pending := rfl

@[simp] theorem State.onRouter_line (s : State) (f : Router → Router) : (s.onRouter f).line = s.line := rfl
@[simp] theorem State.onRouter_roster (s : State) (f : Router → Router) : (s.onRouter f).roster = s.roster := rfl
@[simp] theorem State.onRouter_items (s : State) (f : Router → Router) : (s.onRouter f).items = s.items := rfl
@[simp] theorem State.onRouter_lanes (s : State) (f : Router → Router) : (s.onRouter f).lanes = s.lanes := rfl
@[simp] theorem State.onRouter_held (s : State) (f : Router → Router) : (s.onRouter f).held = s.held := rfl
@[simp] theorem State.onRouter_journal (s : State) (f : Router → Router) : (s.onRouter f).journal = s.journal := rfl
@[simp] theorem State.onRouter_labels (s : State) (f : Router → Router) : (s.onRouter f).labels = s.labels := rfl
@[simp] theorem State.onRouter_router (s : State) (f : Router → Router) : (s.onRouter f).router = f s.router := rfl
@[simp] theorem State.onRouter_guest (s : State) (f : Router → Router) : (s.onRouter f).guest = s.guest := rfl
@[simp] theorem State.onRouter_night (s : State) (f : Router → Router) : (s.onRouter f).night = s.night := rfl
@[simp] theorem State.onRouter_clock (s : State) (f : Router → Router) : (s.onRouter f).clock = s.clock := rfl
@[simp] theorem State.onRouter_faults (s : State) (f : Router → Router) : (s.onRouter f).faults = s.faults := rfl
@[simp] theorem State.onRouter_start (s : State) (f : Router → Router) : (s.onRouter f).start = s.start := rfl
@[simp] theorem State.onRouter_out (s : State) (f : Router → Router) : (s.onRouter f).out = s.out := rfl
@[simp] theorem State.onRouter_pending (s : State) (f : Router → Router) : (s.onRouter f).pending = s.pending := rfl

@[simp] theorem State.onGuest_line (s : State) (f : GuestUnit → GuestUnit) : (s.onGuest f).line = s.line := rfl
@[simp] theorem State.onGuest_roster (s : State) (f : GuestUnit → GuestUnit) : (s.onGuest f).roster = s.roster := rfl
@[simp] theorem State.onGuest_items (s : State) (f : GuestUnit → GuestUnit) : (s.onGuest f).items = s.items := rfl
@[simp] theorem State.onGuest_lanes (s : State) (f : GuestUnit → GuestUnit) : (s.onGuest f).lanes = s.lanes := rfl
@[simp] theorem State.onGuest_held (s : State) (f : GuestUnit → GuestUnit) : (s.onGuest f).held = s.held := rfl
@[simp] theorem State.onGuest_journal (s : State) (f : GuestUnit → GuestUnit) : (s.onGuest f).journal = s.journal := rfl
@[simp] theorem State.onGuest_labels (s : State) (f : GuestUnit → GuestUnit) : (s.onGuest f).labels = s.labels := rfl
@[simp] theorem State.onGuest_router (s : State) (f : GuestUnit → GuestUnit) : (s.onGuest f).router = s.router := rfl
@[simp] theorem State.onGuest_guest (s : State) (f : GuestUnit → GuestUnit) : (s.onGuest f).guest = f s.guest := rfl
@[simp] theorem State.onGuest_night (s : State) (f : GuestUnit → GuestUnit) : (s.onGuest f).night = s.night := rfl
@[simp] theorem State.onGuest_clock (s : State) (f : GuestUnit → GuestUnit) : (s.onGuest f).clock = s.clock := rfl
@[simp] theorem State.onGuest_faults (s : State) (f : GuestUnit → GuestUnit) : (s.onGuest f).faults = s.faults := rfl
@[simp] theorem State.onGuest_start (s : State) (f : GuestUnit → GuestUnit) : (s.onGuest f).start = s.start := rfl
@[simp] theorem State.onGuest_out (s : State) (f : GuestUnit → GuestUnit) : (s.onGuest f).out = s.out := rfl
@[simp] theorem State.onGuest_pending (s : State) (f : GuestUnit → GuestUnit) : (s.onGuest f).pending = s.pending := rfl

@[simp] theorem State.onNight_line (s : State) (f : Night → Night) : (s.onNight f).line = s.line := rfl
@[simp] theorem State.onNight_roster (s : State) (f : Night → Night) : (s.onNight f).roster = s.roster := rfl
@[simp] theorem State.onNight_items (s : State) (f : Night → Night) : (s.onNight f).items = s.items := rfl
@[simp] theorem State.onNight_lanes (s : State) (f : Night → Night) : (s.onNight f).lanes = s.lanes := rfl
@[simp] theorem State.onNight_held (s : State) (f : Night → Night) : (s.onNight f).held = s.held := rfl
@[simp] theorem State.onNight_journal (s : State) (f : Night → Night) : (s.onNight f).journal = s.journal := rfl
@[simp] theorem State.onNight_labels (s : State) (f : Night → Night) : (s.onNight f).labels = s.labels := rfl
@[simp] theorem State.onNight_router (s : State) (f : Night → Night) : (s.onNight f).router = s.router := rfl
@[simp] theorem State.onNight_guest (s : State) (f : Night → Night) : (s.onNight f).guest = s.guest := rfl
@[simp] theorem State.onNight_night (s : State) (f : Night → Night) : (s.onNight f).night = f s.night := rfl
@[simp] theorem State.onNight_clock (s : State) (f : Night → Night) : (s.onNight f).clock = s.clock := rfl
@[simp] theorem State.onNight_faults (s : State) (f : Night → Night) : (s.onNight f).faults = s.faults := rfl
@[simp] theorem State.onNight_start (s : State) (f : Night → Night) : (s.onNight f).start = s.start := rfl
@[simp] theorem State.onNight_out (s : State) (f : Night → Night) : (s.onNight f).out = s.out := rfl
@[simp] theorem State.onNight_pending (s : State) (f : Night → Night) : (s.onNight f).pending = s.pending := rfl

@[simp] theorem State.onClock_line (s : State) (f : Clock → Clock) : (s.onClock f).line = s.line := rfl
@[simp] theorem State.onClock_roster (s : State) (f : Clock → Clock) : (s.onClock f).roster = s.roster := rfl
@[simp] theorem State.onClock_items (s : State) (f : Clock → Clock) : (s.onClock f).items = s.items := rfl
@[simp] theorem State.onClock_lanes (s : State) (f : Clock → Clock) : (s.onClock f).lanes = s.lanes := rfl
@[simp] theorem State.onClock_held (s : State) (f : Clock → Clock) : (s.onClock f).held = s.held := rfl
@[simp] theorem State.onClock_journal (s : State) (f : Clock → Clock) : (s.onClock f).journal = s.journal := rfl
@[simp] theorem State.onClock_labels (s : State) (f : Clock → Clock) : (s.onClock f).labels = s.labels := rfl
@[simp] theorem State.onClock_router (s : State) (f : Clock → Clock) : (s.onClock f).router = s.router := rfl
@[simp] theorem State.onClock_guest (s : State) (f : Clock → Clock) : (s.onClock f).guest = s.guest := rfl
@[simp] theorem State.onClock_night (s : State) (f : Clock → Clock) : (s.onClock f).night = s.night := rfl
@[simp] theorem State.onClock_clock (s : State) (f : Clock → Clock) : (s.onClock f).clock = f s.clock := rfl
@[simp] theorem State.onClock_faults (s : State) (f : Clock → Clock) : (s.onClock f).faults = s.faults := rfl
@[simp] theorem State.onClock_start (s : State) (f : Clock → Clock) : (s.onClock f).start = s.start := rfl
@[simp] theorem State.onClock_out (s : State) (f : Clock → Clock) : (s.onClock f).out = s.out := rfl
@[simp] theorem State.onClock_pending (s : State) (f : Clock → Clock) : (s.onClock f).pending = s.pending := rfl

@[simp] theorem State.onFaults_line (s : State) (f : FaultRecord → FaultRecord) : (s.onFaults f).line = s.line := rfl
@[simp] theorem State.onFaults_roster (s : State) (f : FaultRecord → FaultRecord) : (s.onFaults f).roster = s.roster := rfl
@[simp] theorem State.onFaults_items (s : State) (f : FaultRecord → FaultRecord) : (s.onFaults f).items = s.items := rfl
@[simp] theorem State.onFaults_lanes (s : State) (f : FaultRecord → FaultRecord) : (s.onFaults f).lanes = s.lanes := rfl
@[simp] theorem State.onFaults_held (s : State) (f : FaultRecord → FaultRecord) : (s.onFaults f).held = s.held := rfl
@[simp] theorem State.onFaults_journal (s : State) (f : FaultRecord → FaultRecord) : (s.onFaults f).journal = s.journal := rfl
@[simp] theorem State.onFaults_labels (s : State) (f : FaultRecord → FaultRecord) : (s.onFaults f).labels = s.labels := rfl
@[simp] theorem State.onFaults_router (s : State) (f : FaultRecord → FaultRecord) : (s.onFaults f).router = s.router := rfl
@[simp] theorem State.onFaults_guest (s : State) (f : FaultRecord → FaultRecord) : (s.onFaults f).guest = s.guest := rfl
@[simp] theorem State.onFaults_night (s : State) (f : FaultRecord → FaultRecord) : (s.onFaults f).night = s.night := rfl
@[simp] theorem State.onFaults_clock (s : State) (f : FaultRecord → FaultRecord) : (s.onFaults f).clock = s.clock := rfl
@[simp] theorem State.onFaults_faults (s : State) (f : FaultRecord → FaultRecord) : (s.onFaults f).faults = f s.faults := rfl
@[simp] theorem State.onFaults_start (s : State) (f : FaultRecord → FaultRecord) : (s.onFaults f).start = s.start := rfl
@[simp] theorem State.onFaults_out (s : State) (f : FaultRecord → FaultRecord) : (s.onFaults f).out = s.out := rfl
@[simp] theorem State.onFaults_pending (s : State) (f : FaultRecord → FaultRecord) : (s.onFaults f).pending = s.pending := rfl

@[simp] theorem State.onStart_line (s : State) (f : StartControl → StartControl) : (s.onStart f).line = s.line := rfl
@[simp] theorem State.onStart_roster (s : State) (f : StartControl → StartControl) : (s.onStart f).roster = s.roster := rfl
@[simp] theorem State.onStart_items (s : State) (f : StartControl → StartControl) : (s.onStart f).items = s.items := rfl
@[simp] theorem State.onStart_lanes (s : State) (f : StartControl → StartControl) : (s.onStart f).lanes = s.lanes := rfl
@[simp] theorem State.onStart_held (s : State) (f : StartControl → StartControl) : (s.onStart f).held = s.held := rfl
@[simp] theorem State.onStart_journal (s : State) (f : StartControl → StartControl) : (s.onStart f).journal = s.journal := rfl
@[simp] theorem State.onStart_labels (s : State) (f : StartControl → StartControl) : (s.onStart f).labels = s.labels := rfl
@[simp] theorem State.onStart_router (s : State) (f : StartControl → StartControl) : (s.onStart f).router = s.router := rfl
@[simp] theorem State.onStart_guest (s : State) (f : StartControl → StartControl) : (s.onStart f).guest = s.guest := rfl
@[simp] theorem State.onStart_night (s : State) (f : StartControl → StartControl) : (s.onStart f).night = s.night := rfl
@[simp] theorem State.onStart_clock (s : State) (f : StartControl → StartControl) : (s.onStart f).clock = s.clock := rfl
@[simp] theorem State.onStart_faults (s : State) (f : StartControl → StartControl) : (s.onStart f).faults = s.faults := rfl
@[simp] theorem State.onStart_start (s : State) (f : StartControl → StartControl) : (s.onStart f).start = f s.start := rfl
@[simp] theorem State.onStart_out (s : State) (f : StartControl → StartControl) : (s.onStart f).out = s.out := rfl
@[simp] theorem State.onStart_pending (s : State) (f : StartControl → StartControl) : (s.onStart f).pending = s.pending := rfl

@[simp] theorem State.setJournal_line (s : State) (b : Option OwnerBatch) : (s.setJournal b).line = s.line := rfl
@[simp] theorem State.setJournal_roster (s : State) (b : Option OwnerBatch) : (s.setJournal b).roster = s.roster := rfl
@[simp] theorem State.setJournal_items (s : State) (b : Option OwnerBatch) : (s.setJournal b).items = s.items := rfl
@[simp] theorem State.setJournal_lanes (s : State) (b : Option OwnerBatch) : (s.setJournal b).lanes = s.lanes := rfl
@[simp] theorem State.setJournal_held (s : State) (b : Option OwnerBatch) : (s.setJournal b).held = s.held := rfl
@[simp] theorem State.setJournal_journal (s : State) (b : Option OwnerBatch) : (s.setJournal b).journal = b := rfl
@[simp] theorem State.setJournal_labels (s : State) (b : Option OwnerBatch) : (s.setJournal b).labels = s.labels := rfl
@[simp] theorem State.setJournal_router (s : State) (b : Option OwnerBatch) : (s.setJournal b).router = s.router := rfl
@[simp] theorem State.setJournal_guest (s : State) (b : Option OwnerBatch) : (s.setJournal b).guest = s.guest := rfl
@[simp] theorem State.setJournal_night (s : State) (b : Option OwnerBatch) : (s.setJournal b).night = s.night := rfl
@[simp] theorem State.setJournal_clock (s : State) (b : Option OwnerBatch) : (s.setJournal b).clock = s.clock := rfl
@[simp] theorem State.setJournal_faults (s : State) (b : Option OwnerBatch) : (s.setJournal b).faults = s.faults := rfl
@[simp] theorem State.setJournal_start (s : State) (b : Option OwnerBatch) : (s.setJournal b).start = s.start := rfl
@[simp] theorem State.setJournal_out (s : State) (b : Option OwnerBatch) : (s.setJournal b).out = s.out := rfl
@[simp] theorem State.setJournal_pending (s : State) (b : Option OwnerBatch) : (s.setJournal b).pending = s.pending := rfl

@[simp] theorem State.emit_line (s : State) (o : Output) : (s.emit o).line = s.line := rfl
@[simp] theorem State.emit_roster (s : State) (o : Output) : (s.emit o).roster = s.roster := rfl
@[simp] theorem State.emit_items (s : State) (o : Output) : (s.emit o).items = s.items := rfl
@[simp] theorem State.emit_lanes (s : State) (o : Output) : (s.emit o).lanes = s.lanes := rfl
@[simp] theorem State.emit_held (s : State) (o : Output) : (s.emit o).held = s.held := rfl
@[simp] theorem State.emit_journal (s : State) (o : Output) : (s.emit o).journal = s.journal := rfl
@[simp] theorem State.emit_labels (s : State) (o : Output) : (s.emit o).labels = s.labels := rfl
@[simp] theorem State.emit_router (s : State) (o : Output) : (s.emit o).router = s.router := rfl
@[simp] theorem State.emit_guest (s : State) (o : Output) : (s.emit o).guest = s.guest := rfl
@[simp] theorem State.emit_night (s : State) (o : Output) : (s.emit o).night = s.night := rfl
@[simp] theorem State.emit_clock (s : State) (o : Output) : (s.emit o).clock = s.clock := rfl
@[simp] theorem State.emit_faults (s : State) (o : Output) : (s.emit o).faults = s.faults := rfl
@[simp] theorem State.emit_start (s : State) (o : Output) : (s.emit o).start = s.start := rfl
@[simp] theorem State.emit_out (s : State) (o : Output) : (s.emit o).out = s.out ++ [o] := rfl
@[simp] theorem State.emit_pending (s : State) (o : Output) : (s.emit o).pending = s.pending := rfl

@[simp] theorem State.onLane_line (s : State) (l : Lane) (f : LaneContext → LaneContext) : (s.onLane l f).line = s.line := rfl
@[simp] theorem State.onBasket_line (s : State) (l : Lane) (f : Basket → Basket) : (s.onBasket l f).line = s.line := rfl
@[simp] theorem State.onLane_roster (s : State) (l : Lane) (f : LaneContext → LaneContext) : (s.onLane l f).roster = s.roster := rfl
@[simp] theorem State.onBasket_roster (s : State) (l : Lane) (f : Basket → Basket) : (s.onBasket l f).roster = s.roster := rfl
@[simp] theorem State.onLane_items (s : State) (l : Lane) (f : LaneContext → LaneContext) : (s.onLane l f).items = s.items := rfl
@[simp] theorem State.onBasket_items (s : State) (l : Lane) (f : Basket → Basket) : (s.onBasket l f).items = s.items := rfl
@[simp] theorem State.onLane_held (s : State) (l : Lane) (f : LaneContext → LaneContext) : (s.onLane l f).held = s.held := rfl
@[simp] theorem State.onBasket_held (s : State) (l : Lane) (f : Basket → Basket) : (s.onBasket l f).held = s.held := rfl
@[simp] theorem State.onLane_journal (s : State) (l : Lane) (f : LaneContext → LaneContext) : (s.onLane l f).journal = s.journal := rfl
@[simp] theorem State.onBasket_journal (s : State) (l : Lane) (f : Basket → Basket) : (s.onBasket l f).journal = s.journal := rfl
@[simp] theorem State.onLane_labels (s : State) (l : Lane) (f : LaneContext → LaneContext) : (s.onLane l f).labels = s.labels := rfl
@[simp] theorem State.onBasket_labels (s : State) (l : Lane) (f : Basket → Basket) : (s.onBasket l f).labels = s.labels := rfl
@[simp] theorem State.onLane_router (s : State) (l : Lane) (f : LaneContext → LaneContext) : (s.onLane l f).router = s.router := rfl
@[simp] theorem State.onBasket_router (s : State) (l : Lane) (f : Basket → Basket) : (s.onBasket l f).router = s.router := rfl
@[simp] theorem State.onLane_guest (s : State) (l : Lane) (f : LaneContext → LaneContext) : (s.onLane l f).guest = s.guest := rfl
@[simp] theorem State.onBasket_guest (s : State) (l : Lane) (f : Basket → Basket) : (s.onBasket l f).guest = s.guest := rfl
@[simp] theorem State.onLane_night (s : State) (l : Lane) (f : LaneContext → LaneContext) : (s.onLane l f).night = s.night := rfl
@[simp] theorem State.onBasket_night (s : State) (l : Lane) (f : Basket → Basket) : (s.onBasket l f).night = s.night := rfl
@[simp] theorem State.onLane_clock (s : State) (l : Lane) (f : LaneContext → LaneContext) : (s.onLane l f).clock = s.clock := rfl
@[simp] theorem State.onBasket_clock (s : State) (l : Lane) (f : Basket → Basket) : (s.onBasket l f).clock = s.clock := rfl
@[simp] theorem State.onLane_faults (s : State) (l : Lane) (f : LaneContext → LaneContext) : (s.onLane l f).faults = s.faults := rfl
@[simp] theorem State.onBasket_faults (s : State) (l : Lane) (f : Basket → Basket) : (s.onBasket l f).faults = s.faults := rfl
@[simp] theorem State.onLane_start (s : State) (l : Lane) (f : LaneContext → LaneContext) : (s.onLane l f).start = s.start := rfl
@[simp] theorem State.onBasket_start (s : State) (l : Lane) (f : Basket → Basket) : (s.onBasket l f).start = s.start := rfl
@[simp] theorem State.onLane_out (s : State) (l : Lane) (f : LaneContext → LaneContext) : (s.onLane l f).out = s.out := rfl
@[simp] theorem State.onBasket_out (s : State) (l : Lane) (f : Basket → Basket) : (s.onBasket l f).out = s.out := rfl
@[simp] theorem State.onLane_pending (s : State) (l : Lane) (f : LaneContext → LaneContext) : (s.onLane l f).pending = s.pending := rfl
@[simp] theorem State.onBasket_pending (s : State) (l : Lane) (f : Basket → Basket) : (s.onBasket l f).pending = s.pending := rfl
@[simp] theorem State.setSlot_roster (s : State) (i : Fin 11) (x : Slot) : (s.setSlot i x).roster = s.roster := rfl
@[simp] theorem State.setSlot_items (s : State) (i : Fin 11) (x : Slot) : (s.setSlot i x).items = s.items := rfl
@[simp] theorem State.setSlot_lanes (s : State) (i : Fin 11) (x : Slot) : (s.setSlot i x).lanes = s.lanes := rfl
@[simp] theorem State.setSlot_held (s : State) (i : Fin 11) (x : Slot) : (s.setSlot i x).held = s.held := rfl
@[simp] theorem State.setSlot_journal (s : State) (i : Fin 11) (x : Slot) : (s.setSlot i x).journal = s.journal := rfl
@[simp] theorem State.setSlot_labels (s : State) (i : Fin 11) (x : Slot) : (s.setSlot i x).labels = s.labels := rfl
@[simp] theorem State.setSlot_router (s : State) (i : Fin 11) (x : Slot) : (s.setSlot i x).router = s.router := rfl
@[simp] theorem State.setSlot_guest (s : State) (i : Fin 11) (x : Slot) : (s.setSlot i x).guest = s.guest := rfl
@[simp] theorem State.setSlot_night (s : State) (i : Fin 11) (x : Slot) : (s.setSlot i x).night = s.night := rfl
@[simp] theorem State.setSlot_clock (s : State) (i : Fin 11) (x : Slot) : (s.setSlot i x).clock = s.clock := rfl
@[simp] theorem State.setSlot_faults (s : State) (i : Fin 11) (x : Slot) : (s.setSlot i x).faults = s.faults := rfl
@[simp] theorem State.setSlot_start (s : State) (i : Fin 11) (x : Slot) : (s.setSlot i x).start = s.start := rfl
@[simp] theorem State.setSlot_out (s : State) (i : Fin 11) (x : Slot) : (s.setSlot i x).out = s.out := rfl
@[simp] theorem State.setSlot_pending (s : State) (i : Fin 11) (x : Slot) : (s.setSlot i x).pending = s.pending := rfl

/-- The lane an update changes. -/
@[simp] theorem State.lane_onLane_self (s : State) (l : Lane) (f : LaneContext → LaneContext) :
    (s.onLane l f).lane l = f (s.lane l) := by
  simp [State.onLane, State.lane]

/-- Every other lane is as it was. -/
theorem State.lane_onLane_ne (s : State) (l m : Lane) (f : LaneContext → LaneContext) (h : m ≠ l) :
    (s.onLane l f).lane m = s.lane m := by
  have : l.val ≠ m.val := fun e => h (Fin.ext e.symm)
  simp [State.onLane, State.lane, Vector.getElem_set_ne, this]

/-- The basket an update changes. -/
@[simp] theorem State.lane_onBasket_self (s : State) (l : Lane) (f : Basket → Basket) :
    (s.onBasket l f).lane l = { s.lane l with basket := f (s.lane l).basket } := by
  simp [State.onBasket]

/-- The slot an update changes. -/
@[simp] theorem State.slot_setSlot_self (s : State) (i : Fin 11) (x : Slot) : (s.setSlot i x).slot i = x := by
  simp [State.setSlot, State.slot]

/-- Every other slot is as it was. -/
theorem State.slot_setSlot_ne (s : State) (i j : Fin 11) (x : Slot) (h : j ≠ i) : (s.setSlot i x).slot j = s.slot j := by
  have : i.val ≠ j.val := fun e => h (Fin.ext e.symm)
  simp [State.setSlot, State.slot, Vector.getElem_set_ne, this]

end Sys2Proof.Machine
end

