-- ==== Sys2Proof/Laws/Place.lean ====
section
/-! SUPPORT. What placing, refilling and withdrawing do where the owner keeps no frame: the usual case, said once (R5, R9). -/

namespace Sys2Proof.Machine

theorem State.freeSlot_of_slots (s t : State) (o : Owner) (h : t.line.slots = s.line.slots) : t.freeSlot o = s.freeSlot o := by
  simp only [State.freeSlot, State.slot, h]

theorem State.refillOnce_nil (s : State) (o : Owner) (h : s.line.kept = []) : s.refillOnce o = s := by
  unfold State.refillOnce
  rw [h]
  cases s.freeSlot o <;> rfl

/-- With nothing kept a freed slot stays FREE. -/
theorem State.refill_nil (s : State) (o : Owner) (h : s.line.kept = []) : s.refill o = s := by
  unfold State.refill
  rw [State.refillOnce_nil s o h, State.refillOnce_nil s o h]

/-- The only kept frame goes into its owner's FREE slot. -/
theorem State.refillOnce_one (s : State) (d : Draft) (i : Fin 11) (hk : s.line.kept = [d])
    (hf : s.freeSlot d.owner = some i) :
    s.refillOnce d.owner =
      match fillDraft (s.onLine fun l => { l with kept := [] }) d with
      | (some f, t) => t.setSlot i (.held .waiting f 0 false)
      | (none, t) => t := by
  unfold State.refillOnce
  rw [hf, hk]
  simp only [takeKept, if_true]
  all_goals (split <;> simp_all only)

theorem State.onLine_kept (s : State) (d : Draft) (hk : s.line.kept = []) :
    ((s.onLine fun l => { l with kept := l.kept ++ [d] }).onLine fun l => { l with kept := [] }) = s := by
  simp only [State.onLine]
  rw [← hk]

/-- With nothing kept and a slot FREE, a frame goes into it, WAITING, with an unheard count of 0. -/
theorem State.place_frame (s : State) (f : Frame) (i : Fin 11) (hk : s.line.kept = [])
    (hf : s.freeSlot f.payload.owner = some i) :
    s.place (.frame f) = s.setSlot i (.held .waiting f 0 false) := by
  have h1 := State.refillOnce_one (s.onLine fun l => { l with kept := l.kept ++ [.frame f] }) (.frame f) i
    (by simp [hk]) hf
  simp only [fillDraft, State.onLine_kept s _ hk] at h1
  unfold State.place State.refill
  rw [h1]
  exact State.refillOnce_nil _ _ (by simpa [State.setSlot] using hk)

/-- With nothing kept and slot 3 FREE, a first NOTE goes into it with its flag's state as it stands (R186). -/
theorem State.place_note (s : State) (flag : FaultFlag) (raised : Stamp) (hk : s.line.kept = []) (hf : s.slot 3 = .free) :
    s.place (.note flag raised false) = s.setSlot 3 (.held .waiting
      { dest := none, payload := .note { flag := flag, raised := raised, stillSet := s.flagSet flag }, applied := false }
      0 false) := by
  have hs : s.freeSlot .note = some 3 := by
    simp only [State.freeSlot, Owner.slots, List.find?, hf, Slot.isFree]
  have h1 := State.refillOnce_one (s.onLine fun l => { l with kept := l.kept ++ [.note flag raised false] })
    (.note flag raised false) 3 (by simp [hk]) hs
  simp only [fillDraft, State.onLine_kept s _ hk] at h1
  unfold State.place State.refill
  rw [h1]
  exact State.refillOnce_nil _ _ (by simpa [State.setSlot] using hk)

/-- With nothing kept and none of the owner's slots changed, withdrawing changes nothing. -/
theorem State.withdrawBy_none (s : State) (change : Slot → Slot) (o : Owner) (p : Frame → Bool) (hk : s.line.kept = [])
    (hs : ∀ i ∈ o.slots, change (s.slot i) = s.slot i) : s.withdrawBy change o p = s := by
  have hfold : ∀ (is : List (Fin 11)) (v : Vector Slot 11), (∀ i ∈ is, change v[i.val] = v[i.val]) →
      is.foldl (fun v (i : Fin 11) => v.set i.val (change v[i.val])) v = v := by
    intro is
    induction is with
    | nil => intro v _; rfl
    | cons i is ih =>
      intro v hv
      have : v.set i.val (change v[i.val]) = v := by
        rw [hv i (List.mem_cons_self ..)]
        exact Vector.set_getElem_self ..
      rw [List.foldl_cons, this]
      exact ih v fun j hj => hv j (List.mem_cons_of_mem _ hj)
  unfold State.withdrawBy
  dsimp only
  rw [hfold o.slots s.line.slots hs]
  have : ∀ keep : Draft → Bool,
      (s.onLine fun l => { l with slots := s.line.slots, kept := l.kept.filter keep }) = s := by
    intro keep
    simp only [State.onLine, hk, List.filter_nil]
    rw [← hk]
  rw [this]
  exact State.refill_nil s o hk

/-- With nothing kept and none of the owner's slots holding a frame that meets the test, withdrawing changes nothing. -/
theorem State.withdraw_none (s : State) (o : Owner) (p : Frame → Bool) (hk : s.line.kept = [])
    (hs : ∀ i ∈ o.slots, withdrawSlot p (s.slot i) = s.slot i) : s.withdraw o p = s :=
  State.withdrawBy_none s (withdrawSlot p) o p hk hs

end Sys2Proof.Machine
end

