-- ==== Sys2Proof/Laws/Faults.lean ====
section
/-! SUPPORT. What raising a fault flag does in the usual case: the Line Port not SILENCED, slot 3 FREE, nothing kept, and for a class A
flag no gateway role held here (R185, R186). -/

namespace Sys2Proof.Machine

theorem State.raise_set (s : State) (f : FaultFlag) (h : s.flagSet f = true) : s.raise f = s := by
  have : (s.flag f).raised.isSome = true := h
  simp [State.raise, this]

/-- The NOTE of a flag just raised. -/
def noteOf (f : FaultFlag) (raised : Stamp) : Frame :=
  { dest := none, payload := .note { flag := f, raised := raised, stillSet := true }, applied := false }

theorem State.raise_new (s : State) (f : FaultFlag) (h : s.flagSet f = false) (hs : s.silenced = false)
    (hk : s.line.kept = []) (h3 : s.slot 3 = .free) (hc : f.classA = true → s.holdsRole = false) :
    s.raise f = (s.setFlag f { raised := some s.stamp, unsent := (s.flag f).unsent }).setSlot 3
      (.held .waiting (noteOf f s.stamp) 0 false) := by
  have h1 : (s.flag f).raised.isSome = false := h
  have hp := State.place_note (s.setFlag f { raised := some s.stamp, unsent := (s.flag f).unsent }) f s.stamp hk h3
  have h2 : (s.setFlag f { raised := some s.stamp, unsent := (s.flag f).unsent }).flagSet f = true := by
    simp [State.flagSet, State.setFlag]
  have h4 : (s.setFlag f { raised := some s.stamp, unsent := (s.flag f).unsent }).silenced = false := hs
  unfold State.raise State.produceNote
  simp only [h1, h4, Bool.false_eq_true, if_false]
  rw [hp, h2]
  by_cases hA : f.classA = true
  · rw [if_pos hA, State.forwardNote]
    rw [if_neg]
    · rfl
    · have hr := hc hA
      simp only [State.holdsRole, State.self] at hr ⊢
      simp [State.setSlot, State.setFlag, hr]
  · rw [if_neg hA]; rfl

/-! ## What raising a flag leaves alone -/

theorem takeKept_owner (o : Owner) (ds : List Draft) (x : Draft × List Draft) (h : takeKept o ds = some x) :
    x.1.owner = o := by
  induction ds generalizing x with
  | nil => simp [takeKept] at h
  | cons d ds ih =>
    unfold takeKept at h
    split at h
    · cases h; assumption
    · cases hk : takeKept o ds with
      | none => simp [hk] at h
      | some y =>
        simp only [hk, Option.map_some, Option.some.injEq] at h
        subst h
        exact ih y hk

theorem fillDraft_beside (s : State) (d : Draft) (h : d.owner ≠ .chunk) : (fillDraft s d).2.beside = s.beside := by
  cases d with
  | frame f => rfl
  | note flag raised resend => cases resend <;> rfl
  | nextChunk => exact absurd rfl h

theorem State.refillOnce_beside (s : State) (o : Owner) (h : o ≠ .chunk) : (s.refillOnce o).beside = s.beside := by
  unfold State.refillOnce
  cases s.freeSlot o with
  | none => rfl
  | some i =>
    cases hk : takeKept o s.line.kept with
    | none => rfl
    | some x =>
      have ho := takeKept_owner o _ x hk
      have hf := fillDraft_beside (s.onLine fun l => { l with kept := x.2 }) x.1 (by rw [ho]; exact h)
      obtain ⟨d, rest⟩ := x
      simp only at hf ⊢
      split
      · next hd => rw [hd] at hf; exact hf
      · next hd => rw [hd] at hf; exact hf

theorem State.refill_beside (s : State) (o : Owner) (h : o ≠ .chunk) : (s.refill o).beside = s.beside := by
  unfold State.refill
  rw [State.refillOnce_beside _ o h, State.refillOnce_beside _ o h]

theorem State.place_beside (s : State) (d : Draft) (h : d.owner ≠ .chunk) : (s.place d).beside = s.beside := by
  unfold State.place
  rw [State.refill_beside _ _ h]
  rfl

theorem State.turns_beside (k : Nat) (s : State) : (State.turns k s).beside = s.beside := by
  induction k generalizing s with
  | zero => rfl
  | succ k ih =>
    unfold State.turns
    dsimp only
    repeat' split
    all_goals first | rfl | (rw [ih]; rfl)

theorem State.schedule_beside (s : State) : s.schedule.beside = s.beside := by
  unfold State.schedule
  repeat' split
  all_goals first | rfl | exact State.turns_beside _ _

theorem State.forwardNote_beside (s : State) (n : Station) (f : FaultFlag) (t : Stamp) :
    (s.forwardNote n f t).beside = s.beside := by
  unfold State.forwardNote
  dsimp only
  repeat' split
  all_goals first | rfl | (rw [State.schedule_beside]; rfl)

theorem State.produceNote_beside (s : State) (f : FaultFlag) (t : Stamp) (b : Bool) :
    (s.produceNote f t b).beside = s.beside := by
  unfold State.produceNote
  split
  · rfl
  · exact State.place_beside _ _ (by simp [Draft.owner])

/-- Raising a flag changes only the Line Port, the Uplink Router, the Fault Record and the outputs. -/
theorem State.raise_beside (s : State) (f : FaultFlag) : (s.raise f).beside = s.beside := by
  unfold State.raise
  dsimp only
  repeat' split
  · rfl
  · rw [State.forwardNote_beside, State.produceNote_beside]; rfl
  · rw [State.produceNote_beside]; rfl

section
variable (s : State) (f : FaultFlag)
@[simp] theorem State.raise_roster : (s.raise f).roster = s.roster := by
  have h := congrArg State.roster (s.raise_beside f)
  exact h
@[simp] theorem State.raise_items : (s.raise f).items = s.items := by
  have h := congrArg State.items (s.raise_beside f)
  exact h
@[simp] theorem State.raise_held : (s.raise f).held = s.held := by
  have h := congrArg State.held (s.raise_beside f)
  exact h
@[simp] theorem State.raise_journal : (s.raise f).journal = s.journal := by
  have h := congrArg State.journal (s.raise_beside f)
  exact h
@[simp] theorem State.raise_labels : (s.raise f).labels = s.labels := by
  have h := congrArg State.labels (s.raise_beside f)
  exact h
@[simp] theorem State.raise_guest : (s.raise f).guest = s.guest := by
  have h := congrArg State.guest (s.raise_beside f)
  exact h
@[simp] theorem State.raise_night : (s.raise f).night = s.night := by
  have h := congrArg State.night (s.raise_beside f)
  exact h
@[simp] theorem State.raise_clock : (s.raise f).clock = s.clock := by
  have h := congrArg State.clock (s.raise_beside f)
  exact h
@[simp] theorem State.raise_start : (s.raise f).start = s.start := by
  have h := congrArg State.start (s.raise_beside f)
  exact h
@[simp] theorem State.raise_pending : (s.raise f).pending = s.pending := by
  have h := congrArg State.pending (s.raise_beside f)
  exact h
end

/-! ## A flag raised is set, and no other flag changes -/

theorem fillDraft_raised (s : State) (d : Draft) (f : FaultFlag) : (fillDraft s d).2.flagSet f = s.flagSet f := by
  cases d with
  | frame _ => rfl
  | note flag raised resend =>
    cases resend with
    | false => rfl
    | true =>
      simp only [fillDraft, if_true, State.flagSet, State.onFaults, Vector.getElem_set]
      split
      · next h => simp only [h]
      · rfl
  | nextChunk =>
    simp only [fillDraft]
    split <;> rfl

theorem State.refillOnce_raised (s : State) (o : Owner) (f : FaultFlag) : (s.refillOnce o).flagSet f = s.flagSet f := by
  unfold State.refillOnce
  split
  · next i d rest _ _ =>
    have := fillDraft_raised (s.onLine fun l => { l with kept := rest }) d f
    split
    · next hd => rw [hd] at this; exact this
    · next hd => rw [hd] at this; exact this
  · rfl

theorem State.place_raised (s : State) (d : Draft) (f : FaultFlag) : (s.place d).flagSet f = s.flagSet f := by
  unfold State.place State.refill
  rw [State.refillOnce_raised, State.refillOnce_raised]
  rfl

theorem State.turns_faults (k : Nat) (s : State) : (State.turns k s).faults = s.faults := by
  induction k generalizing s with
  | zero => rfl
  | succ k ih =>
    unfold State.turns
    dsimp only
    repeat' split
    all_goals first | rfl | (rw [ih])

theorem State.forwardNote_faults (s : State) (n : Station) (f : FaultFlag) (t : Stamp) :
    (s.forwardNote n f t).faults = s.faults := by
  unfold State.forwardNote State.schedule
  dsimp only
  repeat' split
  all_goals first | rfl | (rw [State.turns_faults]; rfl)

theorem State.setFlag_flagSet (s : State) (f g : FaultFlag) (e : FlagEntry) :
    (s.setFlag f e).flagSet g = if f = g then e.raised.isSome else s.flagSet g := by
  simp only [State.flagSet, State.setFlag, State.onFaults, Vector.getElem_set]
  cases f <;> cases g <;> rfl

theorem State.produceNote_raised (s : State) (f g : FaultFlag) (t : Stamp) (b : Bool) :
    (s.produceNote f t b).flagSet g = s.flagSet g := by
  unfold State.produceNote
  split
  · rw [State.noteOutcome, State.setFlag_flagSet]
    split
    · next h => subst h; rfl
    · rfl
  · exact State.place_raised ..

/-- Raising a flag sets it and no other. -/
theorem State.raise_flagSet (s : State) (f g : FaultFlag) : (s.raise f).flagSet g = (decide (f = g) || s.flagSet g) := by
  unfold State.raise
  dsimp only
  split
  · next h =>
    by_cases hg : f = g
    · subst hg; simp only [decide_true, Bool.true_or]; exact h
    · simp [hg]
  · have key : ∀ t : State, t.faults = ((s.setFlag f { s.flag f with raised := some s.stamp }).produceNote f s.stamp false).faults →
        t.flagSet g = (decide (f = g) || s.flagSet g) := by
      intro t ht
      have h1 := State.produceNote_raised (s.setFlag f { s.flag f with raised := some s.stamp }) f g s.stamp false
      rw [State.setFlag_flagSet] at h1
      have h2 : t.flagSet g = ((s.setFlag f { s.flag f with raised := some s.stamp }).produceNote f s.stamp false).flagSet g := by
        simp only [State.flagSet, ht]
      rw [h2, h1]
      by_cases hg : f = g <;> simp [hg]
    split
    · exact key _ (State.forwardNote_faults ..)
    · exact key _ rfl

/-! ## Raising a flag touches no send slot but slot 3 -/

theorem fillDraft_slots (s : State) (d : Draft) : (fillDraft s d).2.line = s.line := by
  cases d with
  | frame _ => rfl
  | note flag raised resend => cases resend <;> rfl
  | nextChunk =>
    simp only [fillDraft]
    split <;> rfl

@[simp] theorem State.setSlot_slot (s : State) (i j : Fin 11) (x : Slot) :
    (s.setSlot i x).slot j = if i = j then x else s.slot j := by
  simp only [State.setSlot, State.slot, State.onLine, Vector.getElem_set, Fin.ext_iff]

theorem State.refillOnce_slot (s : State) (o : Owner) (j : Fin 11) (h : j ∉ o.slots) :
    (s.refillOnce o).slot j = s.slot j := by
  unfold State.refillOnce
  split
  · next i d rest hf _ =>
    have hi : i ∈ o.slots := List.mem_of_find?_eq_some hf
    have hl := fillDraft_slots (s.onLine fun l => { l with kept := rest }) d
    have hne : i ≠ j := fun e => h (e ▸ hi)
    split
    · next hd =>
      rw [hd] at hl
      rw [State.setSlot_slot, if_neg hne]
      have hx := congrArg (fun l : LinePort => l.slots[j.val]) hl
      exact hx
    · next hd =>
      rw [hd] at hl
      have hx := congrArg (fun l : LinePort => l.slots[j.val]) hl
      exact hx
  · rfl

theorem State.place_slot (s : State) (d : Draft) (j : Fin 11) (h : j ∉ d.owner.slots) : (s.place d).slot j = s.slot j := by
  unfold State.place State.refill
  rw [State.refillOnce_slot _ _ _ h, State.refillOnce_slot _ _ _ h]
  rfl

theorem State.turns_line (k : Nat) (s : State) : (State.turns k s).line = s.line := by
  induction k generalizing s with
  | zero => rfl
  | succ k ih =>
    unfold State.turns
    dsimp only
    repeat' split
    all_goals first | rfl | (rw [ih])

theorem State.forwardNote_line (s : State) (n : Station) (f : FaultFlag) (t : Stamp) :
    (s.forwardNote n f t).line = s.line := by
  unfold State.forwardNote State.schedule
  dsimp only
  repeat' split
  all_goals first | rfl | (rw [State.turns_line]; rfl)

/-- Raising a flag touches no send slot but slot 3. -/
theorem State.raise_slot (s : State) (f : FaultFlag) (j : Fin 11) (h : j ≠ 3) : (s.raise f).slot j = s.slot j := by
  have key : ∀ t : State, t.line = ((s.setFlag f { s.flag f with raised := some s.stamp }).produceNote f s.stamp false).line →
      t.slot j = s.slot j := by
    intro t ht
    have : t.slot j = ((s.setFlag f { s.flag f with raised := some s.stamp }).produceNote f s.stamp false).slot j := by
      simp only [State.slot, ht]
    rw [this]
    unfold State.produceNote
    split
    · rfl
    · rw [State.place_slot _ _ _ (by simpa [Draft.owner, Owner.slots] using h)]
      rfl
  unfold State.raise
  dsimp only
  repeat' split
  · rfl
  · exact key _ (State.forwardNote_line ..)
  · exact key _ rfl

/-! ## All of it at once -/

theorem State.refillOnce_line (s : State) (o : Owner) :
    (s.refillOnce o).line = { s.line with slots := (s.refillOnce o).line.slots, kept := (s.refillOnce o).line.kept } := by
  unfold State.refillOnce
  split
  · next i d rest _ _ =>
    have hl := fillDraft_slots (s.onLine fun l => { l with kept := rest }) d
    split
    · next hd =>
      rw [hd] at hl
      simp only [State.setSlot, State.onLine] at hl ⊢
      rw [hl]
    · next hd =>
      rw [hd] at hl
      simp only [State.onLine] at hl ⊢
      rw [hl]
  · rfl

theorem State.place_line (s : State) (d : Draft) :
    (s.place d).line = { s.line with slots := (s.place d).line.slots, kept := (s.place d).line.kept } := by
  unfold State.place State.refill
  rw [State.refillOnce_line]
  rw [State.refillOnce_line]
  rfl

theorem State.raise_line (s : State) (f : FaultFlag) :
    (s.raise f).line = { s.line with slots := (s.raise f).line.slots, kept := (s.raise f).line.kept } := by
  have key : ∀ t : State, t.line = ((s.setFlag f { s.flag f with raised := some s.stamp }).produceNote f s.stamp false).line →
      t.line = { s.line with slots := t.line.slots, kept := t.line.kept } := by
    intro t ht
    rw [ht]
    unfold State.produceNote
    split
    · rfl
    · exact State.place_line _ _
  unfold State.raise
  dsimp only
  repeat' split
  · rfl
  · exact key _ (State.forwardNote_line ..)
  · exact key _ rfl

/-! ## What raising a flag leaves of kept frames, of other flags' marks, of the router and the outputs -/

theorem takeKept_others (o : Owner) (ds : List Draft) (x : Draft × List Draft) (h : takeKept o ds = some x) :
    x.2.filter (fun d => d.owner ≠ o) = ds.filter (fun d => d.owner ≠ o) := by
  induction ds generalizing x with
  | nil => simp [takeKept] at h
  | cons d ds ih =>
    unfold takeKept at h
    split at h
    · next hd => cases h; simp [hd]
    · next hd =>
      cases hk : takeKept o ds with
      | none => simp [hk] at h
      | some y =>
        simp only [hk, Option.map_some, Option.some.injEq] at h
        subst h
        have := ih y hk
        simp only [List.filter_cons, this]

theorem takeKept_mem (o : Owner) (ds : List Draft) (x : Draft × List Draft) (h : takeKept o ds = some x) :
    x.1 ∈ ds ∧ ∀ d ∈ x.2, d ∈ ds := by
  induction ds generalizing x with
  | nil => simp [takeKept] at h
  | cons d ds ih =>
    unfold takeKept at h
    split at h
    · cases h; exact ⟨List.mem_cons_self .., fun _ h => List.mem_cons_of_mem _ h⟩
    · cases hk : takeKept o ds with
      | none => simp [hk] at h
      | some y =>
        simp only [hk, Option.map_some, Option.some.injEq] at h
        subst h
        have := ih y hk
        refine ⟨List.mem_cons_of_mem _ this.1, fun e he => ?_⟩
        rcases List.mem_cons.1 he with rfl | he
        · exact List.mem_cons_self ..
        · exact List.mem_cons_of_mem _ (this.2 e he)

/-- What the placing of kept frames leaves alone: `SaveForNotes` but for the listed flags' own places. -/
structure Placed (s t : State) : Prop where
  kept   : t.line.kept.filter (fun d => d.owner ≠ .note) = s.line.kept.filter (fun d => d.owner ≠ .note)
  mem    : ∀ d ∈ t.line.kept, d ∈ s.line.kept
  unsent : ∀ f : FaultFlag, (∀ raised, Draft.note f raised true ∉ s.line.kept) →
    (t.faults.flags[f.code.val]).unsent = (s.faults.flags[f.code.val]).unsent
  raised : ∀ f : FaultFlag, (t.faults.flags[f.code.val]).raised = (s.faults.flags[f.code.val]).raised
  hold   : t.faults.journalHold = s.faults.journalHold
  router : t.router = s.router
  out    : t.out = s.out

theorem Placed.refl (s : State) : Placed s s := ⟨rfl, fun _ h => h, fun _ _ => rfl, fun _ => rfl, rfl, rfl, rfl⟩

theorem Placed.trans {s t u : State} (h : Placed s t) (k : Placed t u) : Placed s u where
  kept := k.kept.trans h.kept
  mem := fun d hd => h.mem d (k.mem d hd)
  unsent := fun f hf => (k.unsent f fun raised hm => hf raised (h.mem _ hm)).trans (h.unsent f hf)
  raised := fun f => (k.raised f).trans (h.raised f)
  hold := k.hold.trans h.hold
  router := k.router.trans h.router
  out := k.out.trans h.out

theorem FaultFlag.code_inj (f g : FaultFlag) (h : f.code.val = g.code.val) : f = g := by
  cases f <;> cases g <;> first | rfl | (exact absurd h (by decide))

theorem State.refillOnce_placed (s : State) : Placed s (s.refillOnce .note) := by
  unfold State.refillOnce
  split
  · next i d rest _ hk =>
    have ho := takeKept_others _ _ _ hk
    have hm := takeKept_mem _ _ _ hk
    have hn := takeKept_owner _ _ _ hk
    cases d with
    | frame f => exact ⟨ho, hm.2, fun _ _ => rfl, fun _ => rfl, rfl, rfl, rfl⟩
    | nextChunk => cases hn
    | note flag raised resend =>
      cases resend with
      | false => exact ⟨ho, hm.2, fun _ _ => rfl, fun _ => rfl, rfl, rfl, rfl⟩
      | true =>
        refine ⟨ho, hm.2, fun f hf => ?_, fun f => ?_, rfl, rfl, rfl⟩
        · have hne : flag.code.val ≠ f.code.val := fun h =>
            hf raised (by rw [← FaultFlag.code_inj _ _ h]; exact hm.1)
          simp only [fillDraft, if_true, State.onFaults, State.setSlot, State.onLine, Vector.getElem_set, if_neg hne]
        · simp only [fillDraft, if_true, State.onFaults, State.setSlot, State.onLine, Vector.getElem_set]
          split
          · next h => simp only [h]
          · rfl
  · exact Placed.refl s

theorem State.placeNote_left (s : State) (f : FaultFlag) (t : Stamp) :
    Placed (s.onLine fun l => { l with kept := l.kept ++ [.note f t false] }) (s.place (.note f t false)) :=
  (State.refillOnce_placed _).trans (State.refillOnce_placed _)

/-- What raising a flag may touch. -/
theorem State.raise_saveForNotes (s : State) (f : FaultFlag) : SaveForNotes [f] s (s.raise f) := by
  have key : ∀ t : State, t = (s.setFlag f { s.flag f with raised := some s.stamp }).produceNote f s.stamp false →
      t.line.kept.filter (fun d => d.owner ≠ .note) = s.line.kept.filter (fun d => d.owner ≠ .note) ∧
      (∀ g : FaultFlag, g ∉ [f] → (t.faults.flags[g.code.val]).raised = (s.faults.flags[g.code.val]).raised) ∧
      (∀ g : FaultFlag, g ∉ [f] → (∀ raised, Draft.note g raised true ∉ s.line.kept) →
        (t.faults.flags[g.code.val]).unsent = (s.faults.flags[g.code.val]).unsent) ∧
      t.faults.journalHold = s.faults.journalHold ∧ t.router = s.router ∧ t.out = s.out := by
    intro t ht
    subst ht
    have hset : ∀ (u : State) (e : FlagEntry) (g : FaultFlag), g ∉ [f] →
        ((u.setFlag f e).faults.flags[g.code.val]) = u.faults.flags[g.code.val] := by
      intro u e g hg
      have hne : f.code.val ≠ g.code.val := fun h => hg (by simp [FaultFlag.code_inj _ _ h])
      simp only [State.setFlag, State.onFaults, Vector.getElem_set, if_neg hne]
    unfold State.produceNote
    split
    · refine ⟨rfl, fun g hg => ?_, fun g hg _ => ?_, rfl, rfl, rfl⟩
      · rw [State.noteOutcome, hset _ _ _ hg, hset _ _ _ hg]
      · rw [State.noteOutcome, hset _ _ _ hg, hset _ _ _ hg]
    · have h := State.placeNote_left (s.setFlag f { s.flag f with raised := some s.stamp }) f s.stamp
      refine ⟨?_, fun g hg => ?_, fun g hg hk => ?_, h.hold, h.router, h.out⟩
      · rw [h.kept]
        simp [State.onLine, State.setFlag, State.onFaults, Draft.owner]
      · rw [h.raised]
        exact congrArg FlagEntry.raised (hset s _ g hg)
      · rw [h.unsent g]
        · exact congrArg FlagEntry.unsent (hset s _ g hg)
        · intro raised hm
          rcases List.mem_append.1 hm with hm | hm
          · exact hk raised hm
          · simp at hm
  obtain ⟨hk, hr, hu, hh, hro, hout⟩ := key _ rfl
  have hfull : s.raise f = s ∨
      (s.raise f).line.kept.filter (fun d => d.owner ≠ .note) = s.line.kept.filter (fun d => d.owner ≠ .note) ∧
      (s.raise f).faults = ((s.setFlag f { s.flag f with raised := some s.stamp }).produceNote f s.stamp false).faults ∧
      ((∀ g ∈ [f], g.classA = false) ∨ s.holdsRole = false → (s.raise f).router = s.router ∧ (s.raise f).out = s.out) := by
    unfold State.raise
    dsimp only
    split
    · exact .inl rfl
    · right
      split
      · next hA =>
        refine ⟨by rw [State.forwardNote_line]; exact hk, State.forwardNote_faults .., fun h => ?_⟩
        have hrole : ((s.setFlag f { s.flag f with raised := some s.stamp }).produceNote f s.stamp false).holdsRole =
            s.holdsRole := by
          have hb := State.produceNote_beside (s.setFlag f { s.flag f with raised := some s.stamp }) f s.stamp false
          have h1 := congrArg State.roster hb
          have h2 := congrArg State.start hb
          simp only [State.beside] at h1 h2
          simp only [State.holdsRole, State.self, h1, h2]
          rfl
        rcases h with h | h
        · exact absurd (h f (by simp)) (by simp [hA])
        · rw [State.forwardNote, hrole, h]
          exact ⟨hro, hout⟩
      · exact ⟨hk, rfl, fun _ => ⟨hro, hout⟩⟩
  rcases hfull with h | ⟨h1, h2, h3⟩
  · rw [h]
    exact ⟨rfl, rfl, fun _ _ => rfl, rfl, fun _ _ => rfl, fun _ _ _ => rfl, rfl, fun _ => ⟨rfl, rfl⟩⟩
  · exact {
      beside := s.raise_beside f
      line := s.raise_line f
      slots := fun i h => s.raise_slot f i h
      kept := h1
      flags := fun g hg => by rw [h2]; exact hr g hg
      unsent := fun g hg hn => by rw [h2]; exact hu g hg hn
      hold := by rw [h2]; exact hh
      router := h3 }

theorem State.dropFlag_saveForNotes (s : State) (f : FaultFlag) : SaveForNotes [f] s (s.dropFlag f) := by
  have hset : ∀ (e : FlagEntry) (g : FaultFlag), g ∉ [f] →
      ((s.setFlag f e).faults.flags[g.code.val]) = s.faults.flags[g.code.val] := by
    intro e g hg
    have hne : f.code.val ≠ g.code.val := fun h => hg (by simp [FaultFlag.code_inj _ _ h])
    simp only [State.setFlag, State.onFaults, Vector.getElem_set, if_neg hne]
  exact ⟨rfl, rfl, fun _ _ => rfl, rfl, fun g h => by rw [State.dropFlag, hset _ g h],
    fun g h _ => by rw [State.dropFlag, hset _ g h], rfl, fun _ => ⟨rfl, rfl⟩⟩

theorem saveForNotes_refl (fs : List FaultFlag) (s : State) : SaveForNotes fs s s :=
  ⟨rfl, rfl, fun _ _ => rfl, rfl, fun _ _ => rfl, fun _ _ _ => rfl, rfl, fun _ => ⟨rfl, rfl⟩⟩

/-- Testing the journal-full condition, in the statements' words (R97, R185). -/
theorem State.testJournal_eq (s : State) : s.testJournal = journalTested s := by
  unfold State.testJournal journalTested State.journalFull
  cases s.hasRoom <;> rfl

theorem State.testJournal_saveForNotes (s : State) : SaveForNotes [.journalFull] s s.testJournal := by
  unfold State.testJournal
  split
  · exact s.raise_saveForNotes .journalFull
  · split
    · exact saveForNotes_refl ..
    · exact s.dropFlag_saveForNotes .journalFull

end Sys2Proof.Machine
end

