-- ==== Sys2Proof/Laws/Lanes.lean ====
section
/-! SUPPORT. Which lanes an operation touches: none, or the one lane it is given. One lemma per operation. -/

namespace Sys2Proof.Machine

/-- A state with the same lanes has the same lane. -/
theorem State.lane_of_lanes {s t : State} (h : t.lanes = s.lanes) (m : Lane) : t.lane m = s.lane m := by
  simp only [State.lane, h]

@[simp] theorem foldl_lanes {α : Type} (f : State → α → State) (h : ∀ t x, (f t x).lanes = t.lanes) (xs : List α)
    (s : State) : (xs.foldl f s).lanes = s.lanes := by
  induction xs generalizing s with
  | nil => rfl
  | cons x xs ih => rw [List.foldl_cons, ih, h]

@[simp] theorem foldl_lane {α : Type} (f : State → α → State) (h : ∀ t x, (f t x).lanes = t.lanes) (xs : List α)
    (s : State) (m : Lane) : (xs.foldl f s).lane m = s.lane m := State.lane_of_lanes (foldl_lanes f h xs s) m

/-- Updates written out as a record, the lanes as they were. -/
@[simp] theorem lane_mk (s : State) (li : LinePort) (ro : Roster) (it : ItemTable) (he : HeldMemory) (jo : Option OwnerBatch)
    (lb : LabelUnit) (r : Router) (g : GuestUnit) (n : Night) (c : Clock) (fa : FaultRecord) (st : StartControl)
    (ou : List Output) (pe : List Instr) (m : Lane) :
    (State.mk li ro it s.lanes he jo lb r g n c fa st ou pe).lane m = s.lane m := rfl
@[simp] theorem State.onLine_lane (s : State) f (m : Lane) : (s.onLine f).lane m = s.lane m := rfl
@[simp] theorem State.onRoster_lane (s : State) f (m : Lane) : (s.onRoster f).lane m = s.lane m := rfl
@[simp] theorem State.onItems_lane (s : State) f (m : Lane) : (s.onItems f).lane m = s.lane m := rfl
@[simp] theorem State.onHeld_lane (s : State) f (m : Lane) : (s.onHeld f).lane m = s.lane m := rfl
@[simp] theorem State.onLabels_lane (s : State) f (m : Lane) : (s.onLabels f).lane m = s.lane m := rfl
@[simp] theorem State.onRouter_lane (s : State) f (m : Lane) : (s.onRouter f).lane m = s.lane m := rfl
@[simp] theorem State.onGuest_lane (s : State) f (m : Lane) : (s.onGuest f).lane m = s.lane m := rfl
@[simp] theorem State.onNight_lane (s : State) f (m : Lane) : (s.onNight f).lane m = s.lane m := rfl
@[simp] theorem State.onClock_lane (s : State) f (m : Lane) : (s.onClock f).lane m = s.lane m := rfl
@[simp] theorem State.onFaults_lane (s : State) f (m : Lane) : (s.onFaults f).lane m = s.lane m := rfl
@[simp] theorem State.onStart_lane (s : State) f (m : Lane) : (s.onStart f).lane m = s.lane m := rfl
@[simp] theorem State.setJournal_lane (s : State) b (m : Lane) : (s.setJournal b).lane m = s.lane m := rfl
@[simp] theorem State.emit_lane (s : State) o (m : Lane) : (s.emit o).lane m = s.lane m := rfl
@[simp] theorem State.setSlot_lane (s : State) i x (m : Lane) : (s.setSlot i x).lane m = s.lane m := rfl

@[simp] theorem State.onLane_lane_other (s : State) (l : Lane) (f : LaneContext → LaneContext) (other : Lane) (hm : other ≠ l) :
    (State.onLane s l f).lane other = s.lane other := State.lane_onLane_ne s l other f hm

@[simp] theorem State.onBasket_lane_other (s : State) (l : Lane) (f : Basket → Basket) (other : Lane) (hm : other ≠ l) :
    (State.onBasket s l f).lane other = s.lane other := by
  unfold State.onBasket
  try dsimp only
  (repeat' split) <;> first | (simp [hm]; done) | (simp_all; done) | with_reducible rfl

@[simp] theorem State.fillDraft_lanes (s : State) (x0 : Draft) : (fillDraft s x0).2.lanes = s.lanes := by
  unfold fillDraft
  try dsimp only
  (repeat' split) <;> first | (simp; done) | (simp_all; done) | with_reducible rfl

@[simp] theorem State.refillOnce_lanes (s : State) (o : Owner) : (State.refillOnce s o).lanes = s.lanes := by
  unfold State.refillOnce
  split
  · split
    · next h => simpa using congrArg (fun x => State.lanes x.2) h.symm
    · next h => simpa using congrArg (fun x => State.lanes x.2) h.symm
  · rfl
@[simp] theorem State.refillOnce_lane (s : State) (o : Owner) (other : Lane) : (State.refillOnce s o).lane other = s.lane other :=
  State.lane_of_lanes (State.refillOnce_lanes s o) other

@[simp] theorem State.refill_lanes (s : State) (o : Owner) : (State.refill s o).lanes = s.lanes := by
  unfold State.refill
  try dsimp only
  (repeat' split) <;> first | (simp; done) | (simp_all; done) | with_reducible rfl
@[simp] theorem State.refill_lane (s : State) (o : Owner) (other : Lane) : (State.refill s o).lane other = s.lane other :=
  State.lane_of_lanes (State.refill_lanes s o) other

@[simp] theorem State.place_lanes (s : State) (d : Draft) : (State.place s d).lanes = s.lanes := by
  unfold State.place
  try dsimp only
  (repeat' split) <;> first | (simp; done) | (simp_all; done) | with_reducible rfl
@[simp] theorem State.place_lane (s : State) (d : Draft) (other : Lane) : (State.place s d).lane other = s.lane other :=
  State.lane_of_lanes (State.place_lanes s d) other

@[simp] theorem State.withdrawBy_lanes (s : State) (change : Slot → Slot) (o : Owner) (p : Frame → Bool) :
    (State.withdrawBy s change o p).lanes = s.lanes := by
  unfold State.withdrawBy
  try dsimp only
  (repeat' split) <;> first | (simp; done) | (simp_all; done) | with_reducible rfl
@[simp] theorem State.withdrawBy_lane (s : State) (change : Slot → Slot) (o : Owner) (p : Frame → Bool) (other : Lane) :
    (State.withdrawBy s change o p).lane other = s.lane other :=
  State.lane_of_lanes (State.withdrawBy_lanes s change o p) other

@[simp] theorem State.withdraw_lanes (s : State) (o : Owner) (p : Frame → Bool) :
    (State.withdraw s o p).lanes = s.lanes := by
  unfold State.withdraw
  try dsimp only
  (repeat' split) <;> first | (simp; done) | (simp_all; done) | with_reducible rfl
@[simp] theorem State.withdraw_lane (s : State) (o : Owner) (p : Frame → Bool) (other : Lane) : (State.withdraw s o p).lane other = s.lane other :=
  State.lane_of_lanes (State.withdraw_lanes s o p) other

@[simp] theorem State.withdrawWaiting_lanes (s : State) (o : Owner) (p : Frame → Bool) :
    (State.withdrawWaiting s o p).lanes = s.lanes := by
  unfold State.withdrawWaiting
  try dsimp only
  (repeat' split) <;> first | (simp; done) | (simp_all; done) | with_reducible rfl
@[simp] theorem State.withdrawWaiting_lane (s : State) (o : Owner) (p : Frame → Bool) (other : Lane) :
    (State.withdrawWaiting s o p).lane other = s.lane other :=
  State.lane_of_lanes (State.withdrawWaiting_lanes s o p) other

@[simp] theorem State.recalcPressure_lanes (s : State) : (State.recalcPressure s).lanes = s.lanes := by
  unfold State.recalcPressure
  try dsimp only
  (repeat' split) <;> first | (simp; done) | (simp_all; done) | with_reducible rfl
@[simp] theorem State.recalcPressure_lane (s : State) (other : Lane) : (State.recalcPressure s).lane other = s.lane other :=
  State.lane_of_lanes (State.recalcPressure_lanes s) other

@[simp] theorem State.handOver_lanes (s : State) (item : CarrierItem) (r : Router) :
    (State.handOver s item r).lanes = s.lanes := rfl
@[simp] theorem State.handOver_lane (s : State) (item : CarrierItem) (r : Router) (other : Lane) : (State.handOver s item r).lane other = s.lane other :=
  State.lane_of_lanes (State.handOver_lanes s item r) other

@[simp] theorem State.turns_lanes (x0 : Nat) (s : State) : (State.turns x0 s).lanes = s.lanes := by
  induction x0 generalizing s with
  | zero => rfl
  | succ n ih =>
    unfold State.turns
    split
    · split <;> simp
    · extract_lets r
      clear_value r
      split
      · simp [ih]
      · split
        · split <;> simp
        · simp [ih]
@[simp] theorem State.turns_lane (x0 : Nat) (s : State) (other : Lane) : (State.turns x0 s).lane other = s.lane other :=
  State.lane_of_lanes (State.turns_lanes x0 s) other

@[simp] theorem State.schedule_lanes (s : State) : (State.schedule s).lanes = s.lanes := by
  unfold State.schedule
  try dsimp only
  (repeat' split) <;> first | (simp; done) | (simp_all; done) | with_reducible rfl
@[simp] theorem State.schedule_lane (s : State) (other : Lane) : (State.schedule s).lane other = s.lane other :=
  State.lane_of_lanes (State.schedule_lanes s) other

@[simp] theorem State.forwardNote_lanes (s : State) (station : Station) (flag : FaultFlag) (raised : Stamp) :
    (State.forwardNote s station flag raised).lanes = s.lanes := by
  unfold State.forwardNote
  try dsimp only
  (repeat' split) <;> first | (simp; done) | (simp_all; done) | with_reducible rfl
@[simp] theorem State.forwardNote_lane (s : State) (station : Station) (flag : FaultFlag) (raised : Stamp) (other : Lane) : (State.forwardNote s station flag raised).lane other = s.lane other :=
  State.lane_of_lanes (State.forwardNote_lanes s station flag raised) other

@[simp] theorem State.setFlag_lanes (s : State) (f : FaultFlag) (e : FlagEntry) : (State.setFlag s f e).lanes = s.lanes := by
  unfold State.setFlag
  try dsimp only
  (repeat' split) <;> first | (simp; done) | (simp_all; done) | with_reducible rfl
@[simp] theorem State.setFlag_lane (s : State) (f : FaultFlag) (e : FlagEntry) (other : Lane) : (State.setFlag s f e).lane other = s.lane other :=
  State.lane_of_lanes (State.setFlag_lanes s f e) other

@[simp] theorem State.noteOutcome_lanes (s : State) (f : FaultFlag) (raised : Stamp) (carried : Bool) :
    (State.noteOutcome s f raised carried).lanes = s.lanes := by
  unfold State.noteOutcome
  try dsimp only
  (repeat' split) <;> first | (simp; done) | (simp_all; done) | with_reducible rfl
@[simp] theorem State.noteOutcome_lane (s : State) (f : FaultFlag) (raised : Stamp) (carried : Bool) (other : Lane) : (State.noteOutcome s f raised carried).lane other = s.lane other :=
  State.lane_of_lanes (State.noteOutcome_lanes s f raised carried) other

@[simp] theorem State.produceNote_lanes (s : State) (f : FaultFlag) (raised : Stamp) (resend : Bool) :
    (State.produceNote s f raised resend).lanes = s.lanes := by
  unfold State.produceNote
  try dsimp only
  (repeat' split) <;> first | (simp; done) | (simp_all; done) | with_reducible rfl
@[simp] theorem State.produceNote_lane (s : State) (f : FaultFlag) (raised : Stamp) (resend : Bool) (other : Lane) : (State.produceNote s f raised resend).lane other = s.lane other :=
  State.lane_of_lanes (State.produceNote_lanes s f raised resend) other

@[simp] theorem State.raise_lanes (s : State) (f : FaultFlag) : (State.raise s f).lanes = s.lanes := by
  unfold State.raise
  try dsimp only
  (repeat' split) <;> first | (simp; done) | (simp_all; done) | with_reducible rfl
@[simp] theorem State.raise_lane (s : State) (f : FaultFlag) (other : Lane) : (State.raise s f).lane other = s.lane other :=
  State.lane_of_lanes (State.raise_lanes s f) other

@[simp] theorem State.dropFlag_lanes (s : State) (f : FaultFlag) : (State.dropFlag s f).lanes = s.lanes := by
  unfold State.dropFlag
  try dsimp only
  (repeat' split) <;> first | (simp; done) | (simp_all; done) | with_reducible rfl
@[simp] theorem State.dropFlag_lane (s : State) (f : FaultFlag) (other : Lane) : (State.dropFlag s f).lane other = s.lane other :=
  State.lane_of_lanes (State.dropFlag_lanes s f) other

@[simp] theorem State.resendNotes_lanes (s : State) : (State.resendNotes s).lanes = s.lanes := by
  unfold State.resendNotes
  refine foldl_lanes _ (fun t f => ?_) _ _
  split <;> simp
@[simp] theorem State.resendNotes_lane (s : State) (other : Lane) : (State.resendNotes s).lane other = s.lane other :=
  State.lane_of_lanes (State.resendNotes_lanes s) other

@[simp] theorem State.testJournal_lanes (s : State) : (State.testJournal s).lanes = s.lanes := by
  unfold State.testJournal
  try dsimp only
  (repeat' split) <;> first | (simp; done) | (simp_all; done) | with_reducible rfl
@[simp] theorem State.testJournal_lane (s : State) (other : Lane) : (State.testJournal s).lane other = s.lane other :=
  State.lane_of_lanes (State.testJournal_lanes s) other

@[simp] theorem State.writeNote_lanes (s : State) (c : RecordContent) : (State.writeNote s c).lanes = s.lanes := by
  unfold State.writeNote
  try dsimp only
  (repeat' split) <;> first | (simp; done) | (simp_all; done) | with_reducible rfl
@[simp] theorem State.writeNote_lane (s : State) (c : RecordContent) (other : Lane) : (State.writeNote s c).lane other = s.lane other :=
  State.lane_of_lanes (State.writeNote_lanes s c) other

@[simp] theorem State.endBasket_lane_other (s : State) (l : Lane) (type : Option RecordType) (other : Lane) (hm : other ≠ l) :
    (State.endBasket s l type).lane other = s.lane other := by
  unfold State.endBasket
  try dsimp only
  (repeat' split) <;> first | (simp [hm]; done) | (simp_all; done) | with_reducible rfl

@[simp] theorem State.endOwnerBatch_lanes (s : State) : (State.endOwnerBatch s).lanes = s.lanes := by
  unfold State.endOwnerBatch
  try dsimp only
  (repeat' split) <;> first | (simp; done) | (simp_all; done) | with_reducible rfl
@[simp] theorem State.endOwnerBatch_lane (s : State) (other : Lane) : (State.endOwnerBatch s).lane other = s.lane other :=
  State.lane_of_lanes (State.endOwnerBatch_lanes s) other

@[simp] theorem State.stopSending_lanes (s : State) : (State.stopSending s).lanes = s.lanes := by
  unfold State.stopSending
  try dsimp only
  (repeat' split) <;> first | (simp; done) | (simp_all; done) | with_reducible rfl
@[simp] theorem State.stopSending_lane (s : State) (other : Lane) : (State.stopSending s).lane other = s.lane other :=
  State.lane_of_lanes (State.stopSending_lanes s) other

@[simp] theorem State.produceJseg_lanes (s : State) (n : Station) (g : Jseg) :
    (State.produceJseg s n g).lanes = s.lanes := by
  unfold State.produceJseg
  try dsimp only
  (repeat' split) <;> first | (simp; done) | (simp_all; done) | with_reducible rfl
@[simp] theorem State.produceJseg_lane (s : State) (n : Station) (g : Jseg) (other : Lane) : (State.produceJseg s n g).lane other = s.lane other :=
  State.lane_of_lanes (State.produceJseg_lanes s n g) other

@[simp] theorem State.chooseBatch_lanes (s : State) (p : Puller) (count : Nat) :
    (State.chooseBatch s p count).lanes = s.lanes := by
  unfold State.chooseBatch
  try dsimp only
  (repeat' split) <;> first | (simp; done) | (simp_all; done) | with_reducible rfl
@[simp] theorem State.chooseBatch_lane (s : State) (p : Puller) (count : Nat) (other : Lane) : (State.chooseBatch s p count).lane other = s.lane other :=
  State.lane_of_lanes (State.chooseBatch_lanes s p count) other

@[simp] theorem State.jpullFrom_lanes (s : State) (n : Station) (count : Nat) :
    (State.jpullFrom s n count).lanes = s.lanes := by
  unfold State.jpullFrom
  try dsimp only
  (repeat' split) <;> first | (simp; done) | (simp_all; done) | with_reducible rfl
@[simp] theorem State.jpullFrom_lane (s : State) (n : Station) (count : Nat) (other : Lane) : (State.jpullFrom s n count).lane other = s.lane other :=
  State.lane_of_lanes (State.jpullFrom_lanes s n count) other

@[simp] theorem State.jsegCarried_lanes (s : State) (n : Station) (g : Jseg) :
    (State.jsegCarried s n g).lanes = s.lanes := by
  unfold State.jsegCarried
  try dsimp only
  (repeat' split) <;> first | (simp; done) | (simp_all; done) | with_reducible rfl
@[simp] theorem State.jsegCarried_lane (s : State) (n : Station) (g : Jseg) (other : Lane) : (State.jsegCarried s n g).lane other = s.lane other :=
  State.lane_of_lanes (State.jsegCarried_lanes s n g) other

@[simp] theorem State.jrelFrom_lanes (s : State) (p : Puller) (seq : Nat) : (State.jrelFrom s p seq).lanes = s.lanes := by
  unfold State.jrelFrom
  try dsimp only
  (repeat' split) <;> first | (simp; done) | (simp_all; done) | with_reducible rfl
@[simp] theorem State.jrelFrom_lane (s : State) (p : Puller) (seq : Nat) (other : Lane) : (State.jrelFrom s p seq).lane other = s.lane other :=
  State.lane_of_lanes (State.jrelFrom_lanes s p seq) other

@[simp] theorem State.jpullLocal_lanes (s : State) : (State.jpullLocal s).lanes = s.lanes := by
  unfold State.jpullLocal
  try dsimp only
  (repeat' split) <;> first | (simp; done) | (simp_all; done) | with_reducible rfl
@[simp] theorem State.jpullLocal_lane (s : State) (other : Lane) : (State.jpullLocal s).lane other = s.lane other :=
  State.lane_of_lanes (State.jpullLocal_lanes s) other

@[simp] theorem State.takeJpull_lanes (s : State) : (State.takeJpull s).lanes = s.lanes := by
  unfold State.takeJpull
  try dsimp only
  (repeat' split) <;> first | (simp; done) | (simp_all; done) | with_reducible rfl
@[simp] theorem State.takeJpull_lane (s : State) (other : Lane) : (State.takeJpull s).lane other = s.lane other :=
  State.lane_of_lanes (State.takeJpull_lanes s) other

@[simp] theorem State.answer_lane_other (s : State) (l : Lane) (number : Nat) (code : ResultCode) (contents : Contents) (other : Lane) (hm : other ≠ l) :
    (State.answer s l number code contents).lane other = s.lane other := by
  unfold State.answer
  try dsimp only
  (repeat' split) <;> first | (simp [hm]; done) | (simp_all; done) | with_reducible rfl

@[simp] theorem State.request_lane_other (s : State) (r : Request) (f : RequestForm) (work : State → State) (other : Lane) (hm : other ≠ r.lane) (hw : (work s).lane other = s.lane other) :
    (State.request s r f work).lane other = s.lane other := by
  unfold State.request
  try dsimp only
  (repeat' split) <;> first | (simp [hm]; done) | (simp_all; done) | with_reducible rfl

@[simp] theorem State.openWork_lane_other (r : Request) (s : State) (other : Lane) (hm : other ≠ r.lane) :
    (State.openWork r s).lane other = s.lane other := by
  unfold State.openWork
  try dsimp only
  (repeat' split) <;> first | (simp [hm]; done) | (simp_all; done) | with_reducible rfl

@[simp] theorem State.doOpen_lane_other (r : Request) (s : State) (other : Lane) (hm : other ≠ r.lane) :
    (State.doOpen r s).lane other = s.lane other := by
  unfold State.doOpen
  try dsimp only
  (repeat' split) <;> first | (simp [hm]; done) | (simp_all; done) | with_reducible rfl

@[simp] theorem State.priceWork_lane_other (r : Request) (want : ItemKind) (item quantity : Nat) (s : State) (other : Lane) (hm : other ≠ r.lane) :
    (State.priceWork r want item quantity s).lane other = s.lane other := by
  unfold State.priceWork
  try dsimp only
  (repeat' split) <;> first | (simp [hm]; done) | (simp_all; done) | with_reducible rfl

@[simp] theorem State.doPrice_lane_other (r : Request) (want : ItemKind) (item quantity : Nat) (s : State) (other : Lane) (hm : other ≠ r.lane) :
    (State.doPrice r want item quantity s).lane other = s.lane other := by
  unfold State.doPrice
  try dsimp only
  (repeat' split) <;> first | (simp [hm]; done) | (simp_all; done) | with_reducible rfl

@[simp] theorem State.voidWork_lane_other (r : Request) (line : Nat) (s : State) (other : Lane) (hm : other ≠ r.lane) :
    (State.voidWork r line s).lane other = s.lane other := by
  unfold State.voidWork
  try dsimp only
  (repeat' split) <;> first | (simp [hm]; done) | (simp_all; done) | with_reducible rfl

@[simp] theorem State.doVoid_lane_other (r : Request) (line : Nat) (s : State) (other : Lane) (hm : other ≠ r.lane) :
    (State.doVoid r line s).lane other = s.lane other := by
  unfold State.doVoid
  try dsimp only
  (repeat' split) <;> first | (simp [hm]; done) | (simp_all; done) | with_reducible rfl

@[simp] theorem State.askWork_lane_other (r : Request) (item : Nat) (s : State) (other : Lane) (hm : other ≠ r.lane) :
    (State.askWork r item s).lane other = s.lane other := by
  unfold State.askWork
  try dsimp only
  (repeat' split) <;> first | (simp [hm]; done) | (simp_all; done) | with_reducible rfl

@[simp] theorem State.doAsk_lane_other (r : Request) (item : Nat) (s : State) (other : Lane) (hm : other ≠ r.lane) :
    (State.doAsk r item s).lane other = s.lane other := by
  unfold State.doAsk
  try dsimp only
  (repeat' split) <;> first | (simp [hm]; done) | (simp_all; done) | with_reducible rfl

@[simp] theorem State.totalWork_lane_other (r : Request) (s : State) (other : Lane) (hm : other ≠ r.lane) :
    (State.totalWork r s).lane other = s.lane other := by
  unfold State.totalWork
  try dsimp only
  (repeat' split) <;> first | (simp [hm]; done) | (simp_all; done) | with_reducible rfl

@[simp] theorem State.doTotal_lane_other (r : Request) (s : State) (other : Lane) (hm : other ≠ r.lane) :
    (State.doTotal r s).lane other = s.lane other := by
  unfold State.doTotal
  try dsimp only
  (repeat' split) <;> first | (simp [hm]; done) | (simp_all; done) | with_reducible rfl

@[simp] theorem State.resumeWork_lane_other (r : Request) (s : State) (other : Lane) (hm : other ≠ r.lane) :
    (State.resumeWork r s).lane other = s.lane other := by
  unfold State.resumeWork
  try dsimp only
  (repeat' split) <;> first | (simp [hm]; done) | (simp_all; done) | with_reducible rfl

@[simp] theorem State.doResume_lane_other (r : Request) (s : State) (other : Lane) (hm : other ≠ r.lane) :
    (State.doResume r s).lane other = s.lane other := by
  unfold State.doResume
  try dsimp only
  (repeat' split) <;> first | (simp [hm]; done) | (simp_all; done) | with_reducible rfl

@[simp] theorem State.cashWork_lane_other (r : Request) (amount : Nat) (s : State) (other : Lane) (hm : other ≠ r.lane) :
    (State.cashWork r amount s).lane other = s.lane other := by
  unfold State.cashWork
  try dsimp only
  (repeat' split) <;> first | (simp [hm]; done) | (simp_all; done) | with_reducible rfl

@[simp] theorem State.doCash_lane_other (r : Request) (amount : Nat) (s : State) (other : Lane) (hm : other ≠ r.lane) :
    (State.doCash r amount s).lane other = s.lane other := by
  unfold State.doCash
  try dsimp only
  (repeat' split) <;> first | (simp [hm]; done) | (simp_all; done) | with_reducible rfl

@[simp] theorem State.closeWork_lane_other (r : Request) (s : State) (other : Lane) (hm : other ≠ r.lane) :
    (State.closeWork r s).lane other = s.lane other := by
  unfold State.closeWork
  try dsimp only
  (repeat' split) <;> first | (simp [hm]; done) | (simp_all; done) | with_reducible rfl

@[simp] theorem State.doFrameBad_lane_other (l : Lane) (s : State) (other : Lane) (hm : other ≠ l) :
    (State.doFrameBad l s).lane other = s.lane other := by
  unfold State.doFrameBad
  try dsimp only
  (repeat' split) <;> first | (simp [hm]; done) | (simp_all; done) | with_reducible rfl

@[simp] theorem State.doUnknown_lane_other (l : Lane) (number : Nat) (s : State) (other : Lane) (hm : other ≠ l) :
    (State.doUnknown l number s).lane other = s.lane other := by
  unfold State.doUnknown
  try dsimp only
  (repeat' split) <;> first | (simp [hm]; done) | (simp_all; done) | with_reducible rfl

@[simp] theorem State.doAnswerSent_lane_other (l : Lane) (s : State) (other : Lane) (hm : other ≠ l) :
    (State.doAnswerSent l s).lane other = s.lane other := by
  unfold State.doAnswerSent
  try dsimp only
  (repeat' split) <;> first | (simp [hm]; done) | (simp_all; done) | with_reducible rfl

@[simp] theorem State.doBreakEnd_lane_other (l : Lane) (s : State) (other : Lane) (hm : other ≠ l) :
    (State.doBreakEnd l s).lane other = s.lane other := by
  unfold State.doBreakEnd
  try dsimp only
  (repeat' split) <;> first | (simp [hm]; done) | (simp_all; done) | with_reducible rfl

@[simp] theorem State.answerCard_lane_other (s : State) (l : Lane) (code : ResultCode) (contents : Contents) (other : Lane) (hm : other ≠ l) :
    (State.answerCard s l code contents).lane other = s.lane other := by
  unfold State.answerCard
  try dsimp only
  (repeat' split) <;> first | (simp [hm]; done) | (simp_all; done) | with_reducible rfl

@[simp] theorem State.endAuth_lane_other (s : State) (l : Lane) (late : Option Decision) (other : Lane) (hm : other ≠ l) :
    (State.endAuth s l late).lane other = s.lane other := by
  unfold State.endAuth
  try dsimp only
  (repeat' split) <;> first | (simp [hm]; done) | (simp_all; done) | with_reducible rfl

@[simp] theorem State.standInEffect_lane_other (s : State) (l : Lane) (amount : Nat) (other : Lane) (hm : other ≠ l) :
    (State.standInEffect s l amount).lane other = s.lane other := by
  unfold State.standInEffect
  try dsimp only
  (repeat' split) <;> first | (simp [hm]; done) | (simp_all; done) | with_reducible rfl

@[simp] theorem State.standIn_lane_other (s : State) (l : Lane) (late : Bool) (other : Lane) (hm : other ≠ l) :
    (State.standIn s l late).lane other = s.lane other := by
  unfold State.standIn
  try dsimp only
  (repeat' split) <;> first | (simp [hm]; done) | (simp_all; done) | with_reducible rfl

@[simp] theorem State.lateAnswer_lane_other (s : State) (l : Lane) (basket : Nat) (d : Decision) (other : Lane) (hm : other ≠ l) :
    (State.lateAnswer s l basket d).lane other = s.lane other := by
  unfold State.lateAnswer
  try dsimp only
  (repeat' split) <;> first | (simp [hm]; done) | (simp_all; done) | with_reducible rfl

@[simp] theorem State.decideCard_lane_other (s : State) (l : Lane) (amount : Nat) (d : Decision) (other : Lane) (hm : other ≠ l) :
    (State.decideCard s l amount d).lane other = s.lane other := by
  unfold State.decideCard
  try dsimp only
  (repeat' split) <;> first | (simp [hm]; done) | (simp_all; done) | with_reducible rfl

@[simp] theorem State.takeAnswer_lane_other (s : State) (l : Lane) (basket : Nat) (d : Decision) (other : Lane) (hm : other ≠ l) :
    (State.takeAnswer s l basket d).lane other = s.lane other := by
  unfold State.takeAnswer
  try dsimp only
  (repeat' split) <;> first | (simp [hm]; done) | (simp_all; done) | with_reducible rfl

@[simp] theorem State.doAuthTimer_lane_other (l : Lane) (s : State) (other : Lane) (hm : other ≠ l) :
    (State.doAuthTimer l s).lane other = s.lane other := by
  unfold State.doAuthTimer
  try dsimp only
  (repeat' split) <;> first | (simp [hm]; done) | (simp_all; done) | with_reducible rfl

@[simp] theorem State.doLateExpiry_lane_other (l : Lane) (s : State) (other : Lane) (hm : other ≠ l) :
    (State.doLateExpiry l s).lane other = s.lane other := by
  unfold State.doLateExpiry
  try dsimp only
  (repeat' split) <;> first | (simp [hm]; done) | (simp_all; done) | with_reducible rfl

@[simp] theorem State.breakLane_lane_other (s : State) (l : Lane) (other : Lane) (hm : other ≠ l) :
    (State.breakLane s l).lane other = s.lane other := by
  unfold State.breakLane
  try dsimp only
  (repeat' split) <;> first | (simp [hm]; done) | (simp_all; done) | with_reducible rfl

@[simp] theorem State.writeOff_lane_other (s : State) (l : Lane) (other : Lane) (hm : other ≠ l) :
    (State.writeOff s l).lane other = s.lane other := by
  unfold State.writeOff
  try dsimp only
  (repeat' split) <;> first | (simp [hm]; done) | (simp_all; done) | with_reducible rfl

@[simp] theorem State.putRecord_lanes (s : State) (r : ItemRecord) : (State.putRecord s r).lanes = s.lanes := by
  unfold State.putRecord
  try dsimp only
  (repeat' split) <;> first | (simp; done) | (simp_all; done) | with_reducible rfl
@[simp] theorem State.putRecord_lane (s : State) (r : ItemRecord) (other : Lane) : (State.putRecord s r).lane other = s.lane other :=
  State.lane_of_lanes (State.putRecord_lanes s r) other

@[simp] theorem State.removeRecord_lanes (s : State) (code : Nat) : (State.removeRecord s code).lanes = s.lanes := by
  unfold State.removeRecord
  try dsimp only
  (repeat' split) <;> first | (simp; done) | (simp_all; done) | with_reducible rfl
@[simp] theorem State.removeRecord_lane (s : State) (code : Nat) (other : Lane) : (State.removeRecord s code).lane other = s.lane other :=
  State.lane_of_lanes (State.removeRecord_lanes s code) other

@[simp] theorem State.placePull_lanes (s : State) (n : Station) : (State.placePull s n).lanes = s.lanes := by
  unfold State.placePull
  try dsimp only
  (repeat' split) <;> first | (simp; done) | (simp_all; done) | with_reducible rfl
@[simp] theorem State.placePull_lane (s : State) (n : Station) (other : Lane) : (State.placePull s n).lane other = s.lane other :=
  State.lane_of_lanes (State.placePull_lanes s n) other

@[simp] theorem State.setPull_lanes (s : State) (p : Option Pull) : (State.setPull s p).lanes = s.lanes := by
  unfold State.setPull
  try dsimp only
  (repeat' split) <;> first | (simp; done) | (simp_all; done) | with_reducible rfl
@[simp] theorem State.setPull_lane (s : State) (p : Option Pull) (other : Lane) : (State.setPull s p).lane other = s.lane other :=
  State.lane_of_lanes (State.setPull_lanes s p) other

@[simp] theorem State.touch_lanes (s : State) (code : Nat) : (State.touch s code).lanes = s.lanes := by
  unfold State.touch
  try dsimp only
  (repeat' split) <;> first | (simp; done) | (simp_all; done) | with_reducible rfl
@[simp] theorem State.touch_lane (s : State) (code : Nat) (other : Lane) : (State.touch s code).lane other = s.lane other :=
  State.lane_of_lanes (State.touch_lanes s code) other

@[simp] theorem State.releaseIncrease_lanes (s : State) (r : ItemRecord) : (State.releaseIncrease s r).lanes = s.lanes := by
  unfold State.releaseIncrease
  try dsimp only
  (repeat' split) <;> first | (simp; done) | (simp_all; done) | with_reducible rfl
@[simp] theorem State.releaseIncrease_lane (s : State) (r : ItemRecord) (other : Lane) : (State.releaseIncrease s r).lane other = s.lane other :=
  State.lane_of_lanes (State.releaseIncrease_lanes s r) other

@[simp] theorem State.confirmStation_lanes (s : State) (r : ItemRecord) (p : Pending) (n : Station) :
    (State.confirmStation s r p n).lanes = s.lanes := by
  unfold State.confirmStation
  try dsimp only
  (repeat' split) <;> first | (simp; done) | (simp_all; done) | with_reducible rfl
@[simp] theorem State.confirmStation_lane (s : State) (r : ItemRecord) (p : Pending) (n : Station) (other : Lane) : (State.confirmStation s r p n).lane other = s.lane other :=
  State.lane_of_lanes (State.confirmStation_lanes s r p n) other

@[simp] theorem State.applyShown_lanes (s : State) (item version : Nat) (n : Station) :
    (State.applyShown s item version n).lanes = s.lanes := by
  unfold State.applyShown
  try dsimp only
  (repeat' split) <;> first | (simp; done) | (simp_all; done) | with_reducible rfl
@[simp] theorem State.applyShown_lane (s : State) (item version : Nat) (n : Station) (other : Lane) : (State.applyShown s item version n).lane other = s.lane other :=
  State.lane_of_lanes (State.applyShown_lanes s item version n) other

@[simp] theorem State.defer_lanes (s : State) (p : Payload) : (State.defer s p).lanes = s.lanes := by
  unfold State.defer
  try dsimp only
  (repeat' split) <;> first | (simp; done) | (simp_all; done) | with_reducible rfl
@[simp] theorem State.defer_lane (s : State) (p : Payload) (other : Lane) : (State.defer s p).lane other = s.lane other :=
  State.lane_of_lanes (State.defer_lanes s p) other

@[simp] theorem State.placeOwn_lanes (s : State) (p : Payload) (applied : Bool) :
    (State.placeOwn s p applied).lanes = s.lanes := by
  unfold State.placeOwn
  try dsimp only
  (repeat' split) <;> first | (simp; done) | (simp_all; done) | with_reducible rfl
@[simp] theorem State.placeOwn_lane (s : State) (p : Payload) (applied : Bool) (other : Lane) : (State.placeOwn s p applied).lane other = s.lane other :=
  State.lane_of_lanes (State.placeOwn_lanes s p applied) other

@[simp] theorem State.ownShown_lanes (s : State) (item version : Nat) : (State.ownShown s item version).lanes = s.lanes := by
  unfold State.ownShown
  try dsimp only
  (repeat' split) <;> first | (simp; done) | (simp_all; done) | with_reducible rfl
@[simp] theorem State.ownShown_lane (s : State) (item version : Nat) (other : Lane) : (State.ownShown s item version).lane other = s.lane other :=
  State.lane_of_lanes (State.ownShown_lanes s item version) other

@[simp] theorem State.setLabel_lanes (s : State) (l : Label) : (State.setLabel s l).lanes = s.lanes := by
  unfold State.setLabel
  try dsimp only
  (repeat' split) <;> first | (simp; done) | (simp_all; done) | with_reducible rfl
@[simp] theorem State.setLabel_lane (s : State) (l : Label) (other : Lane) : (State.setLabel s l).lane other = s.lane other :=
  State.lane_of_lanes (State.setLabel_lanes s l) other

@[simp] theorem State.enqueueLabel_lanes (s : State) (index : Nat) : (State.enqueueLabel s index).lanes = s.lanes := by
  unfold State.enqueueLabel
  try dsimp only
  (repeat' split) <;> first | (simp; done) | (simp_all; done) | with_reducible rfl
@[simp] theorem State.enqueueLabel_lane (s : State) (index : Nat) (other : Lane) : (State.enqueueLabel s index).lane other = s.lane other :=
  State.lane_of_lanes (State.enqueueLabel_lanes s index) other

@[simp] theorem State.unqueueLabel_lanes (s : State) (index : Nat) : (State.unqueueLabel s index).lanes = s.lanes := by
  unfold State.unqueueLabel
  try dsimp only
  (repeat' split) <;> first | (simp; done) | (simp_all; done) | with_reducible rfl
@[simp] theorem State.unqueueLabel_lane (s : State) (index : Nat) (other : Lane) : (State.unqueueLabel s index).lane other = s.lane other :=
  State.lane_of_lanes (State.unqueueLabel_lanes s index) other

@[simp] theorem State.queueLabel_lanes (s : State) (l : Label) : (State.queueLabel s l).lanes = s.lanes := by
  unfold State.queueLabel
  try dsimp only
  (repeat' split) <;> first | (simp; done) | (simp_all; done) | with_reducible rfl
@[simp] theorem State.queueLabel_lane (s : State) (l : Label) (other : Lane) : (State.queueLabel s l).lane other = s.lane other :=
  State.lane_of_lanes (State.queueLabel_lanes s l) other

@[simp] theorem State.settleLabel_lanes (s : State) (l : Label) : (State.settleLabel s l).lanes = s.lanes := by
  unfold State.settleLabel
  try dsimp only
  (repeat' split) <;> first | (simp; done) | (simp_all; done) | with_reducible rfl
@[simp] theorem State.settleLabel_lane (s : State) (l : Label) (other : Lane) : (State.settleLabel s l).lane other = s.lane other :=
  State.lane_of_lanes (State.settleLabel_lanes s l) other

@[simp] theorem State.startExchange_lanes (s : State) : (State.startExchange s).lanes = s.lanes := by
  unfold State.startExchange
  try dsimp only
  (repeat' split) <;> first | (simp; done) | (simp_all; done) | with_reducible rfl
@[simp] theorem State.startExchange_lane (s : State) (other : Lane) : (State.startExchange s).lane other = s.lane other :=
  State.lane_of_lanes (State.startExchange_lanes s) other

@[simp] theorem State.voidExchange_lanes (s : State) (index : Nat) : (State.voidExchange s index).lanes = s.lanes := by
  unfold State.voidExchange
  try dsimp only
  (repeat' split) <;> first | (simp; done) | (simp_all; done) | with_reducible rfl
@[simp] theorem State.voidExchange_lane (s : State) (index : Nat) (other : Lane) : (State.voidExchange s index).lane other = s.lane other :=
  State.lane_of_lanes (State.voidExchange_lanes s index) other

@[simp] theorem State.confirmCheck_lanes (s : State) (item : Nat) : (State.confirmCheck s item).lanes = s.lanes := by
  unfold State.confirmCheck
  try dsimp only
  (repeat' split) <;> first | (simp; done) | (simp_all; done) | with_reducible rfl
@[simp] theorem State.confirmCheck_lane (s : State) (item : Nat) (other : Lane) : (State.confirmCheck s item).lane other = s.lane other :=
  State.lane_of_lanes (State.confirmCheck_lanes s item) other

@[simp] theorem State.labelChanged_lanes (s : State) (l : Label) : (State.labelChanged s l).lanes = s.lanes := by
  unfold State.labelChanged
  try dsimp only
  (repeat' split) <;> first | (simp; done) | (simp_all; done) | with_reducible rfl
@[simp] theorem State.labelChanged_lane (s : State) (l : Label) (other : Lane) : (State.labelChanged s l).lane other = s.lane other :=
  State.lane_of_lanes (State.labelChanged_lanes s l) other

@[simp] theorem State.itemChanged_lanes (s : State) (item : Nat) : (State.itemChanged s item).lanes = s.lanes := by
  unfold State.itemChanged
  try dsimp only
  (repeat' split) <;> first | (simp; done) | (simp_all; done) | with_reducible rfl
@[simp] theorem State.itemChanged_lane (s : State) (item : Nat) (other : Lane) : (State.itemChanged s item).lane other = s.lane other :=
  State.lane_of_lanes (State.itemChanged_lanes s item) other

@[simp] theorem State.endVoid_lanes (s : State) (index : Nat) : (State.endVoid s index).lanes = s.lanes := by
  unfold State.endVoid
  try dsimp only
  (repeat' split) <;> first | (simp; done) | (simp_all; done) | with_reducible rfl
@[simp] theorem State.endVoid_lane (s : State) (index : Nat) (other : Lane) : (State.endVoid s index).lane other = s.lane other :=
  State.lane_of_lanes (State.endVoid_lanes s index) other

@[simp] theorem State.doLabelAck_lanes (radioId : Nat) (battery : Fin 4) (s : State) :
    (State.doLabelAck radioId battery s).lanes = s.lanes := by
  unfold State.doLabelAck
  try dsimp only
  (repeat' split) <;> first | (simp; done) | (simp_all; done) | with_reducible rfl
@[simp] theorem State.doLabelAck_lane (radioId : Nat) (battery : Fin 4) (s : State) (other : Lane) : (State.doLabelAck radioId battery s).lane other = s.lane other :=
  State.lane_of_lanes (State.doLabelAck_lanes radioId battery s) other

@[simp] theorem State.labelUnanswered_lanes (s : State) (l : Label) (changed : Bool) :
    (State.labelUnanswered s l changed).lanes = s.lanes := by
  unfold State.labelUnanswered
  try dsimp only
  (repeat' split) <;> first | (simp; done) | (simp_all; done) | with_reducible rfl
@[simp] theorem State.labelUnanswered_lane (s : State) (l : Label) (changed : Bool) (other : Lane) : (State.labelUnanswered s l changed).lane other = s.lane other :=
  State.lane_of_lanes (State.labelUnanswered_lanes s l changed) other

@[simp] theorem State.doUpdateTimeout_lanes (s : State) : (State.doUpdateTimeout s).lanes = s.lanes := by
  unfold State.doUpdateTimeout
  try dsimp only
  (repeat' split) <;> first | (simp; done) | (simp_all; done) | with_reducible rfl
@[simp] theorem State.doUpdateTimeout_lane (s : State) (other : Lane) : (State.doUpdateTimeout s).lane other = s.lane other :=
  State.lane_of_lanes (State.doUpdateTimeout_lanes s) other

@[simp] theorem State.doNotBefore_lanes (index : Nat) (s : State) : (State.doNotBefore index s).lanes = s.lanes := by
  unfold State.doNotBefore
  try dsimp only
  (repeat' split) <;> first | (simp; done) | (simp_all; done) | with_reducible rfl
@[simp] theorem State.doNotBefore_lane (index : Nat) (s : State) (other : Lane) : (State.doNotBefore index s).lane other = s.lane other :=
  State.lane_of_lanes (State.doNotBefore_lanes index s) other

@[simp] theorem State.readyLabel_lanes (s : State) (l : Label) : (State.readyLabel s l).lanes = s.lanes := by
  unfold State.readyLabel
  try dsimp only
  (repeat' split) <;> first | (simp; done) | (simp_all; done) | with_reducible rfl
@[simp] theorem State.readyLabel_lane (s : State) (l : Label) (other : Lane) : (State.readyLabel s l).lane other = s.lane other :=
  State.lane_of_lanes (State.readyLabel_lanes s l) other

@[simp] theorem State.readyPass_lanes (s : State) : (State.readyPass s).lanes = s.lanes := by
  unfold State.readyPass
  try dsimp only
  (repeat' split) <;> first | (simp; done) | (simp_all; done) | with_reducible rfl
@[simp] theorem State.readyPass_lane (s : State) (other : Lane) : (State.readyPass s).lane other = s.lane other :=
  State.lane_of_lanes (State.readyPass_lanes s) other

@[simp] theorem State.dropRecord_lanes (s : State) (code : Nat) : (State.dropRecord s code).lanes = s.lanes := by
  unfold State.dropRecord
  try dsimp only
  (repeat' split) <;> first | (simp; done) | (simp_all; done) | with_reducible rfl
@[simp] theorem State.dropRecord_lane (s : State) (code : Nat) (other : Lane) : (State.dropRecord s code).lane other = s.lane other :=
  State.lane_of_lanes (State.dropRecord_lanes s code) other

@[simp] theorem State.applyLeave_lanes (s : State) (r : ItemRecord) (n : Station) :
    (State.applyLeave s r n).lanes = s.lanes := by
  unfold State.applyLeave
  try dsimp only
  (repeat' split) <;> first | (simp; done) | (simp_all; done) | with_reducible rfl
@[simp] theorem State.applyLeave_lane (s : State) (r : ItemRecord) (n : Station) (other : Lane) : (State.applyLeave s r n).lane other = s.lane other :=
  State.lane_of_lanes (State.applyLeave_lanes s r n) other

@[simp] theorem State.applyHold_lanes (s : State) (item : Nat) (n : Station) (join : Bool) :
    (State.applyHold s item n join).lanes = s.lanes := by
  unfold State.applyHold
  try dsimp only
  (repeat' split) <;> first | (simp; done) | (simp_all; done) | with_reducible rfl
@[simp] theorem State.applyHold_lane (s : State) (item : Nat) (n : Station) (join : Bool) (other : Lane) : (State.applyHold s item n join).lane other = s.lane other :=
  State.lane_of_lanes (State.applyHold_lanes s item n join) other

@[simp] theorem State.ownHold_lanes (s : State) (item : Nat) (join : Bool) :
    (State.ownHold s item join).lanes = s.lanes := by
  unfold State.ownHold
  try dsimp only
  (repeat' split) <;> first | (simp; done) | (simp_all; done) | with_reducible rfl
@[simp] theorem State.ownHold_lane (s : State) (item : Nat) (join : Bool) (other : Lane) : (State.ownHold s item join).lane other = s.lane other :=
  State.lane_of_lanes (State.ownHold_lanes s item join) other

@[simp] theorem State.ownOutcome_lanes (s : State) (f : Frame) (carried : Bool) :
    (State.ownOutcome s f carried).lanes = s.lanes := by
  unfold State.ownOutcome
  try dsimp only
  (repeat' split) <;> first | (simp; done) | (simp_all; done) | with_reducible rfl
@[simp] theorem State.ownOutcome_lane (s : State) (f : Frame) (carried : Bool) (other : Lane) : (State.ownOutcome s f carried).lane other = s.lane other :=
  State.lane_of_lanes (State.ownOutcome_lanes s f carried) other

@[simp] theorem State.flushDeferred_lanes (s : State) : (State.flushDeferred s).lanes = s.lanes := by
  unfold State.flushDeferred
  try dsimp only
  (repeat' split) <;> first | (simp; done) | (simp_all; done) | with_reducible rfl
@[simp] theorem State.flushDeferred_lane (s : State) (other : Lane) : (State.flushDeferred s).lane other = s.lane other :=
  State.lane_of_lanes (State.flushDeferred_lanes s) other

@[simp] theorem State.markSeen_lanes (s : State) (version : Nat) : (State.markSeen s version).lanes = s.lanes := by
  unfold State.markSeen
  try dsimp only
  (repeat' split) <;> first | (simp; done) | (simp_all; done) | with_reducible rfl
@[simp] theorem State.markSeen_lane (s : State) (version : Nat) (other : Lane) : (State.markSeen s version).lane other = s.lane other :=
  State.lane_of_lanes (State.markSeen_lanes s version) other

@[simp] theorem State.refuseSet_lanes (s : State) (p : PriceSet) : (State.refuseSet s p).lanes = s.lanes := by
  unfold State.refuseSet
  try dsimp only
  (repeat' split) <;> first | (simp; done) | (simp_all; done) | with_reducible rfl
@[simp] theorem State.refuseSet_lane (s : State) (p : PriceSet) (other : Lane) : (State.refuseSet s p).lane other = s.lane other :=
  State.lane_of_lanes (State.refuseSet_lanes s p) other

@[simp] theorem State.setChanged_lanes (s : State) (p : PriceSet) : (State.setChanged s p).lanes = s.lanes := by
  unfold State.setChanged
  try dsimp only
  (repeat' split) <;> first | (simp; done) | (simp_all; done) | with_reducible rfl
@[simp] theorem State.setChanged_lane (s : State) (p : PriceSet) (other : Lane) : (State.setChanged s p).lane other = s.lane other :=
  State.lane_of_lanes (State.setChanged_lanes s p) other

@[simp] theorem State.delist_lanes (s : State) (r : ItemRecord) (p : PriceSet) : (State.delist s r p).lanes = s.lanes := by
  unfold State.delist
  try dsimp only
  (repeat' split) <;> first | (simp; done) | (simp_all; done) | with_reducible rfl
@[simp] theorem State.delist_lane (s : State) (r : ItemRecord) (p : PriceSet) (other : Lane) : (State.delist s r p).lane other = s.lane other :=
  State.lane_of_lanes (State.delist_lanes s r p) other

@[simp] theorem State.applySet_lanes (s : State) (p : PriceSet) : (State.applySet s p).lanes = s.lanes := by
  unfold State.applySet
  try dsimp only
  (repeat' split) <;> first | (simp; done) | (simp_all; done) | with_reducible rfl
@[simp] theorem State.applySet_lane (s : State) (p : PriceSet) (other : Lane) : (State.applySet s p).lane other = s.lane other :=
  State.lane_of_lanes (State.applySet_lanes s p) other

@[simp] theorem State.doWatchExpiry_lanes (s : State) : (State.doWatchExpiry s).lanes = s.lanes := by
  unfold State.doWatchExpiry
  try dsimp only
  (repeat' split) <;> first | (simp; done) | (simp_all; done) | with_reducible rfl
@[simp] theorem State.doWatchExpiry_lane (s : State) (other : Lane) : (State.doWatchExpiry s).lane other = s.lane other :=
  State.lane_of_lanes (State.doWatchExpiry_lanes s) other

@[simp] theorem State.labelLeft_lanes (s : State) (item : Nat) : (State.labelLeft s item).lanes = s.lanes := by
  unfold State.labelLeft
  try dsimp only
  (repeat' split) <;> first | (simp; done) | (simp_all; done) | with_reducible rfl
@[simp] theorem State.labelLeft_lane (s : State) (item : Nat) (other : Lane) : (State.labelLeft s item).lane other = s.lane other :=
  State.lane_of_lanes (State.labelLeft_lanes s item) other

@[simp] theorem State.removeLabel_lanes (s : State) (l : Label) : (State.removeLabel s l).lanes = s.lanes := by
  unfold State.removeLabel
  try dsimp only
  (repeat' split) <;> first | (simp; done) | (simp_all; done) | with_reducible rfl
@[simp] theorem State.removeLabel_lane (s : State) (l : Label) (other : Lane) : (State.removeLabel s l).lane other = s.lane other :=
  State.lane_of_lanes (State.removeLabel_lanes s l) other

@[simp] theorem State.bindNew_lane_other (r : Request) (radioId item : Nat) (s : State) (other : Lane) (hm : other ≠ r.lane) :
    (State.bindNew r radioId item s).lane other = s.lane other := by
  unfold State.bindNew
  try dsimp only
  (repeat' split) <;> first | (simp [hm]; done) | (simp_all; done) | with_reducible rfl

@[simp] theorem State.rebound_lanes (s : State) (l : Label) : (State.rebound s l).lanes = s.lanes := by
  unfold State.rebound
  try dsimp only
  (repeat' split) <;> first | (simp; done) | (simp_all; done) | with_reducible rfl
@[simp] theorem State.rebound_lane (s : State) (l : Label) (other : Lane) : (State.rebound s l).lane other = s.lane other :=
  State.lane_of_lanes (State.rebound_lanes s l) other

@[simp] theorem State.rebind_lane_other (r : Request) (l : Label) (item : Nat) (s : State) (other : Lane) (hm : other ≠ r.lane) :
    (State.rebind r l item s).lane other = s.lane other := by
  unfold State.rebind
  try dsimp only
  (repeat' split) <;> first | (simp [hm]; done) | (simp_all; done) | with_reducible rfl

@[simp] theorem State.bindWork_lane_other (r : Request) (radioId item : Nat) (s : State) (other : Lane) (hm : other ≠ r.lane) :
    (State.bindWork r radioId item s).lane other = s.lane other := by
  unfold State.bindWork
  try dsimp only
  (repeat' split) <;> first | (simp [hm]; done) | (simp_all; done) | with_reducible rfl

@[simp] theorem State.doBind_lane_other (r : Request) (radioId item : Nat) (s : State) (other : Lane) (hm : other ≠ r.lane) :
    (State.doBind r radioId item s).lane other = s.lane other := by
  unfold State.doBind
  try dsimp only
  (repeat' split) <;> first | (simp [hm]; done) | (simp_all; done) | with_reducible rfl

@[simp] theorem State.unbindWork_lane_other (r : Request) (radioId : Nat) (s : State) (other : Lane) (hm : other ≠ r.lane) :
    (State.unbindWork r radioId s).lane other = s.lane other := by
  unfold State.unbindWork
  try dsimp only
  (repeat' split) <;> first | (simp [hm]; done) | (simp_all; done) | with_reducible rfl

@[simp] theorem State.doUnbind_lane_other (r : Request) (radioId : Nat) (s : State) (other : Lane) (hm : other ≠ r.lane) :
    (State.doUnbind r radioId s).lane other = s.lane other := by
  unfold State.doUnbind
  try dsimp only
  (repeat' split) <;> first | (simp [hm]; done) | (simp_all; done) | with_reducible rfl

@[simp] theorem State.releaseWork_lane_other (r : Request) (item : Nat) (s : State) (other : Lane) (hm : other ≠ r.lane) :
    (State.releaseWork r item s).lane other = s.lane other := by
  unfold State.releaseWork
  try dsimp only
  (repeat' split) <;> first | (simp [hm]; done) | (simp_all; done) | with_reducible rfl

@[simp] theorem State.doRelease_lane_other (r : Request) (item : Nat) (s : State) (other : Lane) (hm : other ≠ r.lane) :
    (State.doRelease r item s).lane other = s.lane other := by
  unfold State.doRelease
  try dsimp only
  (repeat' split) <;> first | (simp [hm]; done) | (simp_all; done) | with_reducible rfl

@[simp] theorem State.labelWork_lane_other (r : Request) (radioId : Nat) (s : State) (other : Lane) (hm : other ≠ r.lane) :
    (State.labelWork r radioId s).lane other = s.lane other := by
  unfold State.labelWork
  try dsimp only
  (repeat' split) <;> first | (simp [hm]; done) | (simp_all; done) | with_reducible rfl

@[simp] theorem State.doLabel_lane_other (r : Request) (radioId : Nat) (s : State) (other : Lane) (hm : other ≠ r.lane) :
    (State.doLabel r radioId s).lane other = s.lane other := by
  unfold State.doLabel
  try dsimp only
  (repeat' split) <;> first | (simp [hm]; done) | (simp_all; done) | with_reducible rfl

@[simp] theorem State.setServing_lanes (s : State) (v : Option Serving) : (State.setServing s v).lanes = s.lanes := by
  unfold State.setServing
  try dsimp only
  (repeat' split) <;> first | (simp; done) | (simp_all; done) | with_reducible rfl
@[simp] theorem State.setServing_lane (s : State) (v : Option Serving) (other : Lane) : (State.setServing s v).lane other = s.lane other :=
  State.lane_of_lanes (State.setServing_lanes s v) other

@[simp] theorem State.placeNext_lanes (s : State) : (State.placeNext s).lanes = s.lanes := by
  unfold State.placeNext
  try dsimp only
  (repeat' split) <;> first | (simp; done) | (simp_all; done) | with_reducible rfl
@[simp] theorem State.placeNext_lane (s : State) (other : Lane) : (State.placeNext s).lane other = s.lane other :=
  State.lane_of_lanes (State.placeNext_lanes s) other

@[simp] theorem State.busyChunk_lanes (s : State) (n : Station) : (State.busyChunk s n).lanes = s.lanes := by
  unfold State.busyChunk
  try dsimp only
  (repeat' split) <;> first | (simp; done) | (simp_all; done) | with_reducible rfl
@[simp] theorem State.busyChunk_lane (s : State) (n : Station) (other : Lane) : (State.busyChunk s n).lane other = s.lane other :=
  State.lane_of_lanes (State.busyChunk_lanes s n) other

@[simp] theorem State.servePull_lanes (s : State) (n : Station) : (State.servePull s n).lanes = s.lanes := by
  unfold State.servePull
  try dsimp only
  (repeat' split) <;> first | (simp; done) | (simp_all; done) | with_reducible rfl
@[simp] theorem State.servePull_lane (s : State) (n : Station) (other : Lane) : (State.servePull s n).lane other = s.lane other :=
  State.lane_of_lanes (State.servePull_lanes s n) other

@[simp] theorem State.chunkOutcome_lanes (s : State) (c : Chunk) (carried : Bool) :
    (State.chunkOutcome s c carried).lanes = s.lanes := by
  unfold State.chunkOutcome
  try dsimp only
  (repeat' split) <;> first | (simp; done) | (simp_all; done) | with_reducible rfl
@[simp] theorem State.chunkOutcome_lane (s : State) (c : Chunk) (carried : Bool) (other : Lane) : (State.chunkOutcome s c carried).lane other = s.lane other :=
  State.lane_of_lanes (State.chunkOutcome_lanes s c carried) other

@[simp] theorem State.enterReady_lanes (s : State) : (State.enterReady s).lanes = s.lanes := by
  unfold State.enterReady
  try dsimp only
  (repeat' split) <;> first | (simp; done) | (simp_all; done) | with_reducible rfl
@[simp] theorem State.enterReady_lane (s : State) (other : Lane) : (State.enterReady s).lane other = s.lane other :=
  State.lane_of_lanes (State.enterReady_lanes s) other

@[simp] theorem State.checkReady_lanes (s : State) : (State.checkReady s).lanes = s.lanes := by
  unfold State.checkReady
  try dsimp only
  (repeat' split) <;> first | (simp; done) | (simp_all; done) | with_reducible rfl
@[simp] theorem State.checkReady_lane (s : State) (other : Lane) : (State.checkReady s).lane other = s.lane other :=
  State.lane_of_lanes (State.checkReady_lanes s) other

@[simp] theorem State.tryPull_lanes (s : State) : (State.tryPull s).lanes = s.lanes := by
  unfold State.tryPull
  try dsimp only
  (repeat' split) <;> first | (simp; done) | (simp_all; done) | with_reducible rfl
@[simp] theorem State.tryPull_lane (s : State) (other : Lane) : (State.tryPull s).lane other = s.lane other :=
  State.lane_of_lanes (State.tryPull_lanes s) other

@[simp] theorem State.requestRepair_lanes (s : State) : (State.requestRepair s).lanes = s.lanes := by
  unfold State.requestRepair
  try dsimp only
  (repeat' split) <;> first | (simp; done) | (simp_all; done) | with_reducible rfl
@[simp] theorem State.requestRepair_lane (s : State) (other : Lane) : (State.requestRepair s).lane other = s.lane other :=
  State.lane_of_lanes (State.requestRepair_lanes s) other

@[simp] theorem State.pullEnded_lanes (s : State) : (State.pullEnded s).lanes = s.lanes := by
  unfold State.pullEnded
  try dsimp only
  (repeat' split) <;> first | (simp; done) | (simp_all; done) | with_reducible rfl
@[simp] theorem State.pullEnded_lane (s : State) (other : Lane) : (State.pullEnded s).lane other = s.lane other :=
  State.lane_of_lanes (State.pullEnded_lanes s) other

@[simp] theorem State.targetFailed_lanes (s : State) (p : Pull) : (State.targetFailed s p).lanes = s.lanes := by
  unfold State.targetFailed
  try dsimp only
  (repeat' split) <;> first | (simp; done) | (simp_all; done) | with_reducible rfl
@[simp] theorem State.targetFailed_lane (s : State) (p : Pull) (other : Lane) : (State.targetFailed s p).lane other = s.lane other :=
  State.lane_of_lanes (State.targetFailed_lanes s p) other

@[simp] theorem State.abandonPull_lanes (s : State) : (State.abandonPull s).lanes = s.lanes := by
  unfold State.abandonPull
  try dsimp only
  (repeat' split) <;> first | (simp; done) | (simp_all; done) | with_reducible rfl
@[simp] theorem State.abandonPull_lane (s : State) (other : Lane) : (State.abandonPull s).lane other = s.lane other :=
  State.lane_of_lanes (State.abandonPull_lanes s) other

@[simp] theorem State.pullOutcome_lanes (s : State) (dest : Option Station) (carried : Bool) :
    (State.pullOutcome s dest carried).lanes = s.lanes := by
  unfold State.pullOutcome
  try dsimp only
  (repeat' split) <;> first | (simp; done) | (simp_all; done) | with_reducible rfl
@[simp] theorem State.pullOutcome_lane (s : State) (dest : Option Station) (carried : Bool) (other : Lane) : (State.pullOutcome s dest carried).lane other = s.lane other :=
  State.lane_of_lanes (State.pullOutcome_lanes s dest carried) other

@[simp] theorem State.doPullTimer_lanes (s : State) : (State.doPullTimer s).lanes = s.lanes := by
  unfold State.doPullTimer
  try dsimp only
  (repeat' split) <;> first | (simp; done) | (simp_all; done) | with_reducible rfl
@[simp] theorem State.doPullTimer_lane (s : State) (other : Lane) : (State.doPullTimer s).lane other = s.lane other :=
  State.lane_of_lanes (State.doPullTimer_lanes s) other

@[simp] theorem State.peerLeft_lanes (s : State) (n : Station) : (State.peerLeft s n).lanes = s.lanes := by
  unfold State.peerLeft
  try dsimp only
  (repeat' split) <;> first | (simp; done) | (simp_all; done) | with_reducible rfl
@[simp] theorem State.peerLeft_lane (s : State) (n : Station) (other : Lane) : (State.peerLeft s n).lane other = s.lane other :=
  State.lane_of_lanes (State.peerLeft_lanes s n) other

@[simp] theorem State.servingLost_lanes (s : State) (n : Station) : (State.servingLost s n).lanes = s.lanes := by
  unfold State.servingLost
  try dsimp only
  (repeat' split) <;> first | (simp; done) | (simp_all; done) | with_reducible rfl
@[simp] theorem State.servingLost_lane (s : State) (n : Station) (other : Lane) : (State.servingLost s n).lane other = s.lane other :=
  State.lane_of_lanes (State.servingLost_lanes s n) other

@[simp] theorem State.reconcileOne_lanes (s : State) (code : Nat) : (State.reconcileOne s code).lanes = s.lanes := by
  unfold State.reconcileOne
  try dsimp only
  (repeat' split) <;> first | (simp; done) | (simp_all; done) | with_reducible rfl
@[simp] theorem State.reconcileOne_lane (s : State) (code : Nat) (other : Lane) : (State.reconcileOne s code).lane other = s.lane other :=
  State.lane_of_lanes (State.reconcileOne_lanes s code) other

@[simp] theorem State.reconcile_lanes (s : State) : (State.reconcile s).lanes = s.lanes := by
  unfold State.reconcile
  dsimp only
  rw [foldl_lanes _ (fun t i => by split <;> simp)]
  simp
@[simp] theorem State.reconcile_lane (s : State) (other : Lane) : (State.reconcile s).lane other = s.lane other :=
  State.lane_of_lanes (State.reconcile_lanes s) other

@[simp] theorem State.putSnapshot_lanes (s : State) (r : ItemRecord) : (State.putSnapshot s r).lanes = s.lanes := by
  unfold State.putSnapshot
  try dsimp only
  (repeat' split) <;> first | (simp; done) | (simp_all; done) | with_reducible rfl
@[simp] theorem State.putSnapshot_lane (s : State) (r : ItemRecord) (other : Lane) : (State.putSnapshot s r).lane other = s.lane other :=
  State.lane_of_lanes (State.putSnapshot_lanes s r) other

@[simp] theorem State.delivered_lanes (s : State) (code : Nat) : (State.delivered s code).lanes = s.lanes := by
  unfold State.delivered
  try dsimp only
  (repeat' split) <;> first | (simp; done) | (simp_all; done) | with_reducible rfl
@[simp] theorem State.delivered_lane (s : State) (code : Nat) (other : Lane) : (State.delivered s code).lane other = s.lane other :=
  State.lane_of_lanes (State.delivered_lanes s code) other

@[simp] theorem State.takeRecord_lanes (s : State) (r : ItemRecord) : (State.takeRecord s r).lanes = s.lanes := by
  unfold State.takeRecord
  try dsimp only
  (repeat' split) <;> first | (simp; done) | (simp_all; done) | with_reducible rfl
@[simp] theorem State.takeRecord_lane (s : State) (r : ItemRecord) (other : Lane) : (State.takeRecord s r).lane other = s.lane other :=
  State.lane_of_lanes (State.takeRecord_lanes s r) other

@[simp] theorem State.completePull_lanes (s : State) (p : Pull) (a : Nat) : (State.completePull s p a).lanes = s.lanes := by
  unfold State.completePull
  try dsimp only
  (repeat' split) <;> first | (simp; done) | (simp_all; done) | with_reducible rfl
@[simp] theorem State.completePull_lane (s : State) (p : Pull) (a : Nat) (other : Lane) : (State.completePull s p a).lane other = s.lane other :=
  State.lane_of_lanes (State.completePull_lanes s p a) other

@[simp] theorem State.chunkTaken_lanes (s : State) (n : Station) (c : Chunk) : (State.chunkTaken s n c).lanes = s.lanes := by
  unfold State.chunkTaken
  try dsimp only
  (repeat' split) <;> first | (simp; done) | (simp_all; done) | with_reducible rfl
@[simp] theorem State.chunkTaken_lane (s : State) (n : Station) (c : Chunk) (other : Lane) : (State.chunkTaken s n c).lane other = s.lane other :=
  State.lane_of_lanes (State.chunkTaken_lanes s n c) other

@[simp] theorem State.leadHeard_lanes (s : State) (n : Station) (a : Nat) : (State.leadHeard s n a).lanes = s.lanes := by
  unfold State.leadHeard
  try dsimp only
  (repeat' split) <;> first | (simp; done) | (simp_all; done) | with_reducible rfl
@[simp] theorem State.leadHeard_lane (s : State) (n : Station) (a : Nat) (other : Lane) : (State.leadHeard s n a).lane other = s.lane other :=
  State.lane_of_lanes (State.leadHeard_lanes s n a) other

@[simp] theorem State.compareDone_lanes (s : State) (l : Nat) : (State.compareDone s l).lanes = s.lanes := by
  unfold State.compareDone
  try dsimp only
  (repeat' split) <;> first | (simp; done) | (simp_all; done) | with_reducible rfl
@[simp] theorem State.compareDone_lane (s : State) (l : Nat) (other : Lane) : (State.compareDone s l).lane other = s.lane other :=
  State.lane_of_lanes (State.compareDone_lanes s l) other

@[simp] theorem State.handDone_lanes (s : State) (l : Nat) : (State.handDone s l).lanes = s.lanes := by
  unfold State.handDone
  try dsimp only
  (repeat' split) <;> first | (simp; done) | (simp_all; done) | with_reducible rfl
@[simp] theorem State.handDone_lane (s : State) (l : Nat) (other : Lane) : (State.handDone s l).lane other = s.lane other :=
  State.lane_of_lanes (State.handDone_lanes s l) other

@[simp] theorem State.afterItemTake_lanes (s : State) : (State.afterItemTake s).lanes = s.lanes := by
  unfold State.afterItemTake
  try dsimp only
  (repeat' split) <;> first | (simp; done) | (simp_all; done) | with_reducible rfl
@[simp] theorem State.afterItemTake_lane (s : State) (other : Lane) : (State.afterItemTake s).lane other = s.lane other :=
  State.lane_of_lanes (State.afterItemTake_lanes s) other

@[simp] theorem State.produceAutha_lane_other (s : State) (origin : Station) (lane : Lane) (basket : Nat) (d : Decision) (other : Lane) (hm : other ≠ lane) :
    (State.produceAutha s origin lane basket d).lane other = s.lane other := by
  unfold State.produceAutha
  try dsimp only
  (repeat' split) <;> first | (simp [hm]; done) | (simp_all; done) | with_reducible rfl

@[simp] theorem State.routerRequest_lane_other (s : State) (origin : Station) (lane : Lane) (basket amount : Nat) (other : Lane) (hm : other ≠ lane) :
    (State.routerRequest s origin lane basket amount).lane other = s.lane other := by
  unfold State.routerRequest
  try dsimp only
  (repeat' split) <;> first | (simp [hm]; done) | (simp_all; done) | with_reducible rfl

@[simp] theorem State.doAuthEntryExpiry_lanes (tag : Nat) (s : State) : (State.doAuthEntryExpiry tag s).lanes = s.lanes := by
  unfold State.doAuthEntryExpiry
  try dsimp only
  (repeat' split) <;> first | (simp; done) | (simp_all; done) | with_reducible rfl
@[simp] theorem State.doAuthEntryExpiry_lane (tag : Nat) (s : State) (other : Lane) : (State.doAuthEntryExpiry tag s).lane other = s.lane other :=
  State.lane_of_lanes (State.doAuthEntryExpiry_lanes tag s) other

@[simp] theorem State.openAuth_lane_other (s : State) (l : Lane) (amount : Nat) (route : Route) (authq : AuthqState) (other : Lane) (hm : other ≠ l) :
    (State.openAuth s l amount route authq).lane other = s.lane other := by
  unfold State.openAuth
  try dsimp only
  (repeat' split) <;> first | (simp [hm]; done) | (simp_all; done) | with_reducible rfl

@[simp] theorem State.cardWork_lane_other (r : Request) (amount : Nat) (s : State) (other : Lane) (hm : other ≠ r.lane) :
    (State.cardWork r amount s).lane other = s.lane other := by
  unfold State.cardWork
  try dsimp only
  (repeat' split) <;> first | (simp [hm]; done) | (simp_all; done) | with_reducible rfl

@[simp] theorem State.doCard_lane_other (r : Request) (amount : Nat) (s : State) (other : Lane) (hm : other ≠ r.lane) :
    (State.doCard r amount s).lane other = s.lane other := by
  unfold State.doCard
  try dsimp only
  (repeat' split) <;> first | (simp [hm]; done) | (simp_all; done) | with_reducible rfl

@[simp] theorem State.authqOutcome_lane_other (s : State) (l : Lane) (basket : Nat) (carried : Bool) (other : Lane) (hm : other ≠ l) :
    (State.authqOutcome s l basket carried).lane other = s.lane other := by
  unfold State.authqOutcome
  try dsimp only
  (repeat' split) <;> first | (simp [hm]; done) | (simp_all; done) | with_reducible rfl

@[simp] theorem State.cancelAuth_lane_other (r : Request) (s : State) (other : Lane) (hm : other ≠ r.lane) :
    (State.cancelAuth r s).lane other = s.lane other := by
  unfold State.cancelAuth
  try dsimp only
  (repeat' split) <;> first | (simp [hm]; done) | (simp_all; done) | with_reducible rfl

@[simp] theorem State.cancelBasket_lane_other (r : Request) (s : State) (other : Lane) (hm : other ≠ r.lane) :
    (State.cancelBasket r s).lane other = s.lane other := by
  unfold State.cancelBasket
  try dsimp only
  (repeat' split) <;> first | (simp [hm]; done) | (simp_all; done) | with_reducible rfl

@[simp] theorem State.setGuest_lanes (s : State) (i : Fin 64) (e : GuestEntry) : (State.setGuest s i e).lanes = s.lanes := by
  unfold State.setGuest
  try dsimp only
  (repeat' split) <;> first | (simp; done) | (simp_all; done) | with_reducible rfl
@[simp] theorem State.setGuest_lane (s : State) (i : Fin 64) (e : GuestEntry) (other : Lane) : (State.setGuest s i e).lane other = s.lane other :=
  State.lane_of_lanes (State.setGuest_lanes s i e) other

@[simp] theorem State.countPoliced_lanes (s : State) : (State.countPoliced s).lanes = s.lanes := by
  unfold State.countPoliced
  try dsimp only
  (repeat' split) <;> first | (simp; done) | (simp_all; done) | with_reducible rfl
@[simp] theorem State.countPoliced_lane (s : State) (other : Lane) : (State.countPoliced s).lane other = s.lane other :=
  State.lane_of_lanes (State.countPoliced_lanes s) other

@[simp] theorem State.removeFlows_lanes (s : State) (p : GuestFlow → Bool) : (State.removeFlows s p).lanes = s.lanes := by
  unfold State.removeFlows
  try dsimp only
  (repeat' split) <;> first | (simp; done) | (simp_all; done) | with_reducible rfl
@[simp] theorem State.removeFlows_lane (s : State) (p : GuestFlow → Bool) (other : Lane) : (State.removeFlows s p).lane other = s.lane other :=
  State.lane_of_lanes (State.removeFlows_lanes s p) other

@[simp] theorem State.doFlowIdle_lanes (index : Nat) (s : State) : (State.doFlowIdle index s).lanes = s.lanes := by
  unfold State.doFlowIdle
  try dsimp only
  (repeat' split) <;> first | (simp; done) | (simp_all; done) | with_reducible rfl
@[simp] theorem State.doFlowIdle_lane (index : Nat) (s : State) (other : Lane) : (State.doFlowIdle index s).lane other = s.lane other :=
  State.lane_of_lanes (State.doFlowIdle_lanes index s) other

@[simp] theorem State.setFlow_lanes (s : State) (f : GuestFlow) : (State.setFlow s f).lanes = s.lanes := by
  unfold State.setFlow
  try dsimp only
  (repeat' split) <;> first | (simp; done) | (simp_all; done) | with_reducible rfl
@[simp] theorem State.setFlow_lane (s : State) (f : GuestFlow) (other : Lane) : (State.setFlow s f).lane other = s.lane other :=
  State.lane_of_lanes (State.setFlow_lanes s f) other

@[simp] theorem State.dropGuest_lanes (s : State) : (State.dropGuest s).lanes = s.lanes := by
  unfold State.dropGuest
  try dsimp only
  (repeat' split) <;> first | (simp; done) | (simp_all; done) | with_reducible rfl
@[simp] theorem State.dropGuest_lane (s : State) (other : Lane) : (State.dropGuest s).lane other = s.lane other :=
  State.lane_of_lanes (State.dropGuest_lanes s) other

@[simp] theorem State.queueGuest_lanes (s : State) (f : GuestFlow) (data : List Byte) :
    (State.queueGuest s f data).lanes = s.lanes := by
  unfold State.queueGuest
  try dsimp only
  (repeat' split) <;> first | (simp; done) | (simp_all; done) | with_reducible rfl
@[simp] theorem State.queueGuest_lane (s : State) (f : GuestFlow) (data : List Byte) (other : Lane) : (State.queueGuest s f data).lane other = s.lane other :=
  State.lane_of_lanes (State.queueGuest_lanes s f data) other

@[simp] theorem State.routeGuest_lanes (s : State) (slot : Fin 64) (p : GuestPacket) :
    (State.routeGuest s slot p).lanes = s.lanes := by
  unfold State.routeGuest
  try dsimp only
  (repeat' split) <;> first | (simp; done) | (simp_all; done) | with_reducible rfl
@[simp] theorem State.routeGuest_lane (s : State) (slot : Fin 64) (p : GuestPacket) (other : Lane) : (State.routeGuest s slot p).lane other = s.lane other :=
  State.lane_of_lanes (State.routeGuest_lanes s slot p) other

@[simp] theorem State.endClient_lanes (s : State) (drop : Bool) (i : Fin 64) :
    (State.endClient s drop i).lanes = s.lanes := by
  unfold State.endClient
  try dsimp only
  (repeat' split) <;> first | (simp; done) | (simp_all; done) | with_reducible rfl
@[simp] theorem State.endClient_lane (s : State) (drop : Bool) (i : Fin 64) (other : Lane) : (State.endClient s drop i).lane other = s.lane other :=
  State.lane_of_lanes (State.endClient_lanes s drop i) other

@[simp] theorem State.endGuests_lanes (s : State) (drop : Bool) : (State.endGuests s drop).lanes = s.lanes := by
  unfold State.endGuests
  try dsimp only
  (repeat' split) <;> first | (simp; done) | (simp_all; done) | with_reducible rfl
@[simp] theorem State.endGuests_lane (s : State) (drop : Bool) (other : Lane) : (State.endGuests s drop).lane other = s.lane other :=
  State.lane_of_lanes (State.endGuests_lanes s drop) other

@[simp] theorem State.endIfClosed_lanes (s : State) : (State.endIfClosed s).lanes = s.lanes := by
  unfold State.endIfClosed
  try dsimp only
  (repeat' split) <;> first | (simp; done) | (simp_all; done) | with_reducible rfl
@[simp] theorem State.endIfClosed_lane (s : State) (other : Lane) : (State.endIfClosed s).lane other = s.lane other :=
  State.lane_of_lanes (State.endIfClosed_lanes s) other

@[simp] theorem State.doSessionEnd_lanes (i : Fin 64) (s : State) : (State.doSessionEnd i s).lanes = s.lanes := by
  unfold State.doSessionEnd
  try dsimp only
  (repeat' split) <;> first | (simp; done) | (simp_all; done) | with_reducible rfl
@[simp] theorem State.doSessionEnd_lane (i : Fin 64) (s : State) (other : Lane) : (State.doSessionEnd i s).lane other = s.lane other :=
  State.lane_of_lanes (State.doSessionEnd_lanes i s) other

@[simp] theorem State.disassocWork_lanes (address : Nat) (s : State) : (State.disassocWork address s).lanes = s.lanes := by
  unfold State.disassocWork
  try dsimp only
  (repeat' split) <;> first | (simp; done) | (simp_all; done) | with_reducible rfl
@[simp] theorem State.disassocWork_lane (address : Nat) (s : State) (other : Lane) : (State.disassocWork address s).lane other = s.lane other :=
  State.lane_of_lanes (State.disassocWork_lanes address s) other

@[simp] theorem State.doGuestBad_lanes (s : State) : (State.doGuestBad s).lanes = s.lanes := rfl
@[simp] theorem State.doGuestBad_lane (s : State) (other : Lane) : (State.doGuestBad s).lane other = s.lane other :=
  State.lane_of_lanes (State.doGuestBad_lanes s) other

@[simp] theorem State.doApLost_lanes (s : State) : (State.doApLost s).lanes = s.lanes := by
  unfold State.doApLost
  try dsimp only
  (repeat' split) <;> first | (simp; done) | (simp_all; done) | with_reducible rfl
@[simp] theorem State.doApLost_lane (s : State) (other : Lane) : (State.doApLost s).lane other = s.lane other :=
  State.lane_of_lanes (State.doApLost_lanes s) other

@[simp] theorem State.refuse_lanes (s : State) (address : Nat) (reason : RefuseReason) :
    (State.refuse s address reason).lanes = s.lanes := by
  unfold State.refuse
  try dsimp only
  (repeat' split) <;> first | (simp; done) | (simp_all; done) | with_reducible rfl
@[simp] theorem State.refuse_lane (s : State) (address : Nat) (reason : RefuseReason) (other : Lane) : (State.refuse s address reason).lane other = s.lane other :=
  State.lane_of_lanes (State.refuse_lanes s address reason) other

@[simp] theorem State.assocWork_lanes (address : Nat) (s : State) : (State.assocWork address s).lanes = s.lanes := by
  unfold State.assocWork
  try dsimp only
  (repeat' split) <;> first | (simp; done) | (simp_all; done) | with_reducible rfl
@[simp] theorem State.assocWork_lane (address : Nat) (s : State) (other : Lane) : (State.assocWork address s).lane other = s.lane other :=
  State.lane_of_lanes (State.assocWork_lanes address s) other

@[simp] theorem State.interceptHit_lanes (s : State) (i : Fin 64) (hits : Vector Bool 8) :
    (State.interceptHit s i hits).lanes = s.lanes := by
  unfold State.interceptHit
  try dsimp only
  (repeat' split) <;> first | (simp; done) | (simp_all; done) | with_reducible rfl
@[simp] theorem State.interceptHit_lane (s : State) (i : Fin 64) (hits : Vector Bool 8) (other : Lane) : (State.interceptHit s i hits).lane other = s.lane other :=
  State.lane_of_lanes (State.interceptHit_lanes s i hits) other

@[simp] theorem State.chargeOut_lanes (s : State) (i : Fin 64) (p : GuestPacket) :
    (State.chargeOut s i p).lanes = s.lanes := by
  unfold State.chargeOut
  try dsimp only
  (repeat' split) <;> first | (simp; done) | (simp_all; done) | with_reducible rfl
@[simp] theorem State.chargeOut_lane (s : State) (i : Fin 64) (p : GuestPacket) (other : Lane) : (State.chargeOut s i p).lane other = s.lane other :=
  State.lane_of_lanes (State.chargeOut_lanes s i p) other

@[simp] theorem State.rateTest_lanes (s : State) (i : Fin 64) (p : GuestPacket) :
    (State.rateTest s i p).lanes = s.lanes := by
  unfold State.rateTest
  try dsimp only
  (repeat' split) <;> first | (simp; done) | (simp_all; done) | with_reducible rfl
@[simp] theorem State.rateTest_lane (s : State) (i : Fin 64) (p : GuestPacket) (other : Lane) : (State.rateTest s i p).lane other = s.lane other :=
  State.lane_of_lanes (State.rateTest_lanes s i p) other

@[simp] theorem State.police_lanes (s : State) (i : Fin 64) (p : GuestPacket) : (State.police s i p).lanes = s.lanes := by
  unfold State.police
  try dsimp only
  (repeat' split) <;> first | (simp; done) | (simp_all; done) | with_reducible rfl
@[simp] theorem State.police_lane (s : State) (i : Fin 64) (p : GuestPacket) (other : Lane) : (State.police s i p).lane other = s.lane other :=
  State.lane_of_lanes (State.police_lanes s i p) other

@[simp] theorem State.packetOutWork_lanes (p : GuestPacket) (s : State) : (State.packetOutWork p s).lanes = s.lanes := by
  unfold State.packetOutWork
  try dsimp only
  (repeat' split) <;> first | (simp; done) | (simp_all; done) | with_reducible rfl
@[simp] theorem State.packetOutWork_lane (p : GuestPacket) (s : State) (other : Lane) : (State.packetOutWork p s).lane other = s.lane other :=
  State.lane_of_lanes (State.packetOutWork_lanes p s) other

@[simp] theorem State.doRefill_lanes (s : State) : (State.doRefill s).lanes = s.lanes := by
  unfold State.doRefill
  try dsimp only
  (repeat' split) <;> first | (simp; done) | (simp_all; done) | with_reducible rfl
@[simp] theorem State.doRefill_lane (s : State) (other : Lane) : (State.doRefill s).lane other = s.lane other :=
  State.lane_of_lanes (State.doRefill_lanes s) other

@[simp] theorem State.chargeIn_lanes (s : State) (f : GuestFlow) (data : List Byte) :
    (State.chargeIn s f data).lanes = s.lanes := by
  unfold State.chargeIn
  try dsimp only
  (repeat' split) <;> first | (simp; done) | (simp_all; done) | with_reducible rfl
@[simp] theorem State.chargeIn_lane (s : State) (f : GuestFlow) (data : List Byte) (other : Lane) : (State.chargeIn s f data).lane other = s.lane other :=
  State.lane_of_lanes (State.chargeIn_lanes s f data) other

@[simp] theorem State.packetIn_lanes (s : State) (port : Nat) (data : List Byte) :
    (State.packetIn s port data).lanes = s.lanes := by
  unfold State.packetIn
  try dsimp only
  (repeat' split) <;> first | (simp; done) | (simp_all; done) | with_reducible rfl
@[simp] theorem State.packetIn_lane (s : State) (port : Nat) (data : List Byte) (other : Lane) : (State.packetIn s port data).lane other = s.lane other :=
  State.lane_of_lanes (State.packetIn_lanes s port data) other

@[simp] theorem State.rollGuests_lanes (s : State) : (State.rollGuests s).lanes = s.lanes := by
  unfold State.rollGuests
  try dsimp only
  (repeat' split) <;> first | (simp; done) | (simp_all; done) | with_reducible rfl
@[simp] theorem State.rollGuests_lane (s : State) (other : Lane) : (State.rollGuests s).lane other = s.lane other :=
  State.lane_of_lanes (State.rollGuests_lanes s) other

@[simp] theorem State.shutGuests_lanes (s : State) : (State.shutGuests s).lanes = s.lanes := by
  unfold State.shutGuests
  try dsimp only
  (repeat' split) <;> first | (simp; done) | (simp_all; done) | with_reducible rfl
@[simp] theorem State.shutGuests_lane (s : State) (other : Lane) : (State.shutGuests s).lane other = s.lane other :=
  State.lane_of_lanes (State.shutGuests_lanes s) other

@[simp] theorem State.produceNight_lanes (s : State) (m : NightMsg) : (State.produceNight s m).lanes = s.lanes := by
  unfold State.produceNight
  try dsimp only
  (repeat' split) <;> first | (simp; done) | (simp_all; done) | with_reducible rfl
@[simp] theorem State.produceNight_lane (s : State) (m : NightMsg) (other : Lane) : (State.produceNight s m).lane other = s.lane other :=
  State.lane_of_lanes (State.produceNight_lanes s m) other

@[simp] theorem State.produceJournal_lanes (s : State) (n : Station) (p : Payload) :
    (State.produceJournal s n p).lanes = s.lanes := by
  unfold State.produceJournal
  try dsimp only
  (repeat' split) <;> first | (simp; done) | (simp_all; done) | with_reducible rfl
@[simp] theorem State.produceJournal_lane (s : State) (n : Station) (p : Payload) (other : Lane) : (State.produceJournal s n p).lane other = s.lane other :=
  State.lane_of_lanes (State.produceJournal_lanes s n p) other

@[simp] theorem State.releaseHere_lanes (s : State) (n : Station) (seq : Nat) : (State.releaseHere s n seq).lanes = s.lanes := by
  unfold State.releaseHere
  try dsimp only
  (repeat' split) <;> first | (simp; done) | (simp_all; done) | with_reducible rfl
@[simp] theorem State.releaseHere_lane (s : State) (n : Station) (seq : Nat) (other : Lane) : (State.releaseHere s n seq).lane other = s.lane other :=
  State.lane_of_lanes (State.releaseHere_lanes s n seq) other

@[simp] theorem State.releaseThere_lanes (s : State) (b : Batch) : (State.releaseThere s b).lanes = s.lanes := by
  unfold State.releaseThere
  try dsimp only
  (repeat' split) <;> first | (simp; done) | (simp_all; done) | with_reducible rfl
@[simp] theorem State.releaseThere_lane (s : State) (b : Batch) (other : Lane) : (State.releaseThere s b).lane other = s.lane other :=
  State.lane_of_lanes (State.releaseThere_lanes s b) other

@[simp] theorem State.release_lanes (s : State) (b : Batch) : (State.release s b).lanes = s.lanes := by
  unfold State.release
  try dsimp only
  (repeat' split) <;> first | (simp; done) | (simp_all; done) | with_reducible rfl
@[simp] theorem State.release_lane (s : State) (b : Batch) (other : Lane) : (State.release s b).lane other = s.lane other :=
  State.lane_of_lanes (State.release_lanes s b) other

@[simp] theorem State.jrelOutcome_lanes (s : State) (dest : Option Station) (seq : Nat) (carried : Bool) : (State.jrelOutcome s dest seq carried).lanes = s.lanes := by
  unfold State.jrelOutcome
  try dsimp only
  (repeat' split) <;> first | (simp; done) | (simp_all; done) | with_reducible rfl
@[simp] theorem State.jrelOutcome_lane (s : State) (dest : Option Station) (seq : Nat) (carried : Bool) (other : Lane) : (State.jrelOutcome s dest seq carried).lane other = s.lane other :=
  State.lane_of_lanes (State.jrelOutcome_lanes s dest seq carried) other

@[simp] theorem State.giveUpBatch_lanes (s : State) : (State.giveUpBatch s).lanes = s.lanes := by
  unfold State.giveUpBatch
  try dsimp only
  (repeat' split) <;> first | (simp; done) | (simp_all; done) | with_reducible rfl
@[simp] theorem State.giveUpBatch_lane (s : State) (other : Lane) : (State.giveUpBatch s).lane other = s.lane other :=
  State.lane_of_lanes (State.giveUpBatch_lanes s) other

@[simp] theorem State.nightClose_lanes (s : State) (r : NightResult) : (State.nightClose s r).lanes = s.lanes := by
  unfold State.nightClose
  try dsimp only
  (repeat' split) <;> first | (simp; done) | (simp_all; done) | with_reducible rfl
@[simp] theorem State.nightClose_lane (s : State) (r : NightResult) (other : Lane) : (State.nightClose s r).lane other = s.lane other :=
  State.lane_of_lanes (State.nightClose_lanes s r) other

@[simp] theorem State.joinNight_lanes (x0 : List NightItem) (s : State) : (State.joinNight x0 s).lanes = s.lanes := by
  induction x0 generalizing s with
  | nil => rfl
  | cons x rest ih =>
    simp only [State.joinNight]
    split <;> simp [ih]
@[simp] theorem State.joinNight_lane (x0 : List NightItem) (s : State) (other : Lane) : (State.joinNight x0 s).lane other = s.lane other :=
  State.lane_of_lanes (State.joinNight_lanes x0 s) other

@[simp] theorem State.zeroCounts_lanes (s : State) : (State.zeroCounts s).lanes = s.lanes := by
  unfold State.zeroCounts
  try dsimp only
  (repeat' split) <;> first | (simp; done) | (simp_all; done) | with_reducible rfl
@[simp] theorem State.zeroCounts_lane (s : State) (other : Lane) : (State.zeroCounts s).lane other = s.lane other :=
  State.lane_of_lanes (State.zeroCounts_lanes s) other

@[simp] theorem State.reportJoined_lanes (s : State) (r : Report) (rest : List Report) : (State.reportJoined s r rest).lanes = s.lanes := by
  unfold State.reportJoined
  try dsimp only
  (repeat' split) <;> first | (simp; done) | (simp_all; done) | with_reducible rfl
@[simp] theorem State.reportJoined_lane (s : State) (r : Report) (rest : List Report) (other : Lane) : (State.reportJoined s r rest).lane other = s.lane other :=
  State.lane_of_lanes (State.reportJoined_lanes s r rest) other

@[simp] theorem State.joinReports_lanes (x0 : List Report) (s : State) : (State.joinReports x0 s).lanes = s.lanes := by
  induction x0 generalizing s with
  | nil => rfl
  | cons x rest ih =>
    simp only [State.joinReports]
    split <;> simp [ih]
@[simp] theorem State.joinReports_lane (x0 : List Report) (s : State) (other : Lane) : (State.joinReports x0 s).lane other = s.lane other :=
  State.lane_of_lanes (State.joinReports_lanes x0 s) other

@[simp] theorem State.joinAll_lanes (s : State) : (State.joinAll s).lanes = s.lanes := by
  unfold State.joinAll
  try dsimp only
  (repeat' split) <;> first | (simp; done) | (simp_all; done) | with_reducible rfl
@[simp] theorem State.joinAll_lane (s : State) (other : Lane) : (State.joinAll s).lane other = s.lane other :=
  State.lane_of_lanes (State.joinAll_lanes s) other

@[simp] theorem State.pump_lanes (s : State) : (State.pump s).lanes = s.lanes := by
  unfold State.pump
  try dsimp only
  (repeat' split) <;> first | (simp; done) | (simp_all; done) | with_reducible rfl
@[simp] theorem State.pump_lane (s : State) (other : Lane) : (State.pump s).lane other = s.lane other :=
  State.lane_of_lanes (State.pump_lanes s) other

@[simp] theorem State.enterReport_lanes (s : State) : (State.enterReport s).lanes = s.lanes := by
  unfold State.enterReport
  try dsimp only
  (repeat' split) <;> first | (simp; done) | (simp_all; done) | with_reducible rfl
@[simp] theorem State.enterReport_lane (s : State) (other : Lane) : (State.enterReport s).lane other = s.lane other :=
  State.lane_of_lanes (State.enterReport_lanes s) other

@[simp] theorem State.enterTime_lanes (s : State) : (State.enterTime s).lanes = s.lanes := by
  unfold State.enterTime
  try dsimp only
  (repeat' split) <;> first | (simp; done) | (simp_all; done) | with_reducible rfl
@[simp] theorem State.enterTime_lane (s : State) (other : Lane) : (State.enterTime s).lane other = s.lane other :=
  State.lane_of_lanes (State.enterTime_lanes s) other

@[simp] theorem State.checkDone_lanes (s : State) : (State.checkDone s).lanes = s.lanes := by
  unfold State.checkDone
  try dsimp only
  (repeat' split) <;> first | (simp; done) | (simp_all; done) | with_reducible rfl
@[simp] theorem State.checkDone_lane (s : State) (other : Lane) : (State.checkDone s).lane other = s.lane other :=
  State.lane_of_lanes (State.checkDone_lanes s) other

@[simp] theorem State.checkPrices_lanes (s : State) : (State.checkPrices s).lanes = s.lanes := by
  unfold State.checkPrices
  try dsimp only
  (repeat' split) <;> first | (simp; done) | (simp_all; done) | with_reducible rfl
@[simp] theorem State.checkPrices_lane (s : State) (other : Lane) : (State.checkPrices s).lane other = s.lane other :=
  State.lane_of_lanes (State.checkPrices_lanes s) other

@[simp] theorem State.enterPrices_lanes (s : State) : (State.enterPrices s).lanes = s.lanes := by
  unfold State.enterPrices
  try dsimp only
  (repeat' split) <;> first | (simp; done) | (simp_all; done) | with_reducible rfl
@[simp] theorem State.enterPrices_lane (s : State) (other : Lane) : (State.enterPrices s).lane other = s.lane other :=
  State.lane_of_lanes (State.enterPrices_lanes s) other

@[simp] theorem State.settlePrices_lanes (s : State) (complete : Bool) :
    (State.settlePrices s complete).lanes = s.lanes := by
  unfold State.settlePrices
  try dsimp only
  (repeat' split) <;> first | (simp; done) | (simp_all; done) | with_reducible rfl
@[simp] theorem State.settlePrices_lane (s : State) (complete : Bool) (other : Lane) : (State.settlePrices s complete).lane other = s.lane other :=
  State.lane_of_lanes (State.settlePrices_lanes s complete) other

@[simp] theorem State.cutRest_lanes (s : State) (ns : List Station) : (State.cutRest s ns).lanes = s.lanes := by
  unfold State.cutRest
  exact foldl_lanes _ (fun t n => by simp) _ _
@[simp] theorem State.cutRest_lane (s : State) (ns : List Station) (other : Lane) : (State.cutRest s ns).lane other = s.lane other :=
  State.lane_of_lanes (State.cutRest_lanes s ns) other

@[simp] theorem State.drainEnd_lanes (s : State) : (State.drainEnd s).lanes = s.lanes := by
  unfold State.drainEnd
  try dsimp only
  (repeat' split) <;> first | (simp; done) | (simp_all; done) | with_reducible rfl
@[simp] theorem State.drainEnd_lane (s : State) (other : Lane) : (State.drainEnd s).lane other = s.lane other :=
  State.lane_of_lanes (State.drainEnd_lanes s) other

@[simp] theorem State.dayDrainEnd_lanes (s : State) : (State.dayDrainEnd s).lanes = s.lanes := by
  unfold State.dayDrainEnd
  try dsimp only
  (repeat' split) <;> first | (simp; done) | (simp_all; done) | with_reducible rfl
@[simp] theorem State.dayDrainEnd_lane (s : State) (other : Lane) : (State.dayDrainEnd s).lane other = s.lane other :=
  State.lane_of_lanes (State.dayDrainEnd_lanes s) other

@[simp] theorem State.newBatch_lanes (s : State) (n : Station) (phase : BatchPhase) (collected : List Collected) :
    (State.newBatch s n phase collected).lanes = s.lanes := by
  unfold State.newBatch
  try dsimp only
  (repeat' split) <;> first | (simp; done) | (simp_all; done) | with_reducible rfl
@[simp] theorem State.newBatch_lane (s : State) (n : Station) (phase : BatchPhase) (collected : List Collected) (other : Lane) : (State.newBatch s n phase collected).lane other = s.lane other :=
  State.lane_of_lanes (State.newBatch_lanes s n phase collected) other

@[simp] theorem State.putBatch_lanes (s : State) (n : Station) (cs : List Collected) :
    (State.putBatch s n cs).lanes = s.lanes := by
  unfold State.putBatch
  try dsimp only
  (repeat' split) <;> first | (simp; done) | (simp_all; done) | with_reducible rfl
@[simp] theorem State.putBatch_lane (s : State) (n : Station) (cs : List Collected) (other : Lane) : (State.putBatch s n cs).lane other = s.lane other :=
  State.lane_of_lanes (State.putBatch_lanes s n cs) other

@[simp] theorem State.beginBatch_lanes (s : State) (n : Station) (t : State) (h : State.beginBatch s n = some t) :
    t.lanes = s.lanes := by
  unfold State.beginBatch at h
  split at h
  · cases h; simp
  · split at h
    · dsimp only at h
      split at h
      · cases h
      · cases h; simp
    · cases h; simp

@[simp] theorem State.walkOn_lanes (x0 : List Station) (s : State) : (State.walkOn x0 s).lanes = s.lanes := by
  induction x0 generalizing s with
  | nil => rfl
  | cons n rest ih =>
    simp only [State.walkOn]
    split
    · split
      · next h => simpa using State.beginBatch_lanes _ _ _ h
      · simp [ih]
    · rw [ih]; split <;> simp
@[simp] theorem State.walkOn_lane (x0 : List Station) (s : State) (other : Lane) : (State.walkOn x0 s).lane other = s.lane other :=
  State.lane_of_lanes (State.walkOn_lanes x0 s) other

@[simp] theorem State.walkDone_lanes (s : State) : (State.walkDone s).lanes = s.lanes := by
  unfold State.walkDone
  try dsimp only
  (repeat' split) <;> first | (simp; done) | (simp_all; done) | with_reducible rfl
@[simp] theorem State.walkDone_lane (s : State) (other : Lane) : (State.walkDone s).lane other = s.lane other :=
  State.lane_of_lanes (State.walkDone_lanes s) other

@[simp] theorem State.finishStation_lanes (s : State) (n : Station) (o : DrainOutcome) :
    (State.finishStation s n o).lanes = s.lanes := by
  unfold State.finishStation
  try dsimp only
  (repeat' split) <;> first | (simp; done) | (simp_all; done) | with_reducible rfl
@[simp] theorem State.finishStation_lane (s : State) (n : Station) (o : DrainOutcome) (other : Lane) : (State.finishStation s n o).lane other = s.lane other :=
  State.lane_of_lanes (State.finishStation_lanes s n o) other

@[simp] theorem State.nextBatch_lanes (s : State) (n : Station) (lost : Bool) :
    (State.nextBatch s n lost).lanes = s.lanes := by
  unfold State.nextBatch
  repeat (first | (split; · simp))
  split
  · next h => exact State.beginBatch_lanes _ _ _ h
  · simp
@[simp] theorem State.nextBatch_lane (s : State) (n : Station) (lost : Bool) (other : Lane) : (State.nextBatch s n lost).lane other = s.lane other :=
  State.lane_of_lanes (State.nextBatch_lanes s n lost) other

@[simp] theorem State.failedAttempt_lanes (s : State) (b : Batch) : (State.failedAttempt s b).lanes = s.lanes := by
  unfold State.failedAttempt
  try dsimp only
  (repeat' split) <;> first | (simp; done) | (simp_all; done) | with_reducible rfl
@[simp] theorem State.failedAttempt_lane (s : State) (b : Batch) (other : Lane) : (State.failedAttempt s b).lane other = s.lane other :=
  State.lane_of_lanes (State.failedAttempt_lanes s b) other

@[simp] theorem State.releaseBatch_lanes (s : State) (b : Batch) : (State.releaseBatch s b).lanes = s.lanes := by
  unfold State.releaseBatch
  try dsimp only
  (repeat' split) <;> first | (simp; done) | (simp_all; done) | with_reducible rfl
@[simp] theorem State.releaseBatch_lane (s : State) (b : Batch) (other : Lane) : (State.releaseBatch s b).lane other = s.lane other :=
  State.lane_of_lanes (State.releaseBatch_lanes s b) other

@[simp] theorem State.collectionEnd_lanes (s : State) (b : Batch) : (State.collectionEnd s b).lanes = s.lanes := by
  unfold State.collectionEnd
  try dsimp only
  (repeat' split) <;> first | (simp; done) | (simp_all; done) | with_reducible rfl
@[simp] theorem State.collectionEnd_lane (s : State) (b : Batch) (other : Lane) : (State.collectionEnd s b).lane other = s.lane other :=
  State.lane_of_lanes (State.collectionEnd_lanes s b) other

@[simp] theorem State.firstShown_lanes (s : State) (b : Batch) (g : Jseg) : (State.firstShown s b g).lanes = s.lanes := by
  unfold State.firstShown
  split <;> simp
@[simp] theorem State.firstShown_lane (s : State) (b : Batch) (g : Jseg) (other : Lane) :
    (State.firstShown s b g).lane other = s.lane other :=
  State.lane_of_lanes (State.firstShown_lanes s b g) other

@[simp] theorem State.collect_lanes (s : State) (n : Station) (g : Jseg) : (State.collect s n g).lanes = s.lanes := by
  unfold State.collect
  try dsimp only
  (repeat' split) <;> first | (simp; done) | (simp_all; done) | with_reducible rfl
@[simp] theorem State.collect_lane (s : State) (n : Station) (g : Jseg) (other : Lane) : (State.collect s n g).lane other = s.lane other :=
  State.lane_of_lanes (State.collect_lanes s n g) other

@[simp] theorem State.jpullOutcome_lanes (s : State) (dest : Option Station) (carried : Bool) :
    (State.jpullOutcome s dest carried).lanes = s.lanes := by
  unfold State.jpullOutcome
  try dsimp only
  (repeat' split) <;> first | (simp; done) | (simp_all; done) | with_reducible rfl
@[simp] theorem State.jpullOutcome_lane (s : State) (dest : Option Station) (carried : Bool) (other : Lane) : (State.jpullOutcome s dest carried).lane other = s.lane other :=
  State.lane_of_lanes (State.jpullOutcome_lanes s dest carried) other

@[simp] theorem State.targetAbsent_lanes (s : State) (n : Station) : (State.targetAbsent s n).lanes = s.lanes := by
  unfold State.targetAbsent
  try dsimp only
  (repeat' split) <;> first | (simp; done) | (simp_all; done) | with_reducible rfl
@[simp] theorem State.targetAbsent_lane (s : State) (n : Station) (other : Lane) : (State.targetAbsent s n).lane other = s.lane other :=
  State.lane_of_lanes (State.targetAbsent_lanes s n) other

@[simp] theorem State.batchResume_lanes (s : State) : (State.batchResume s).lanes = s.lanes := by
  unfold State.batchResume
  try dsimp only
  (repeat' split) <;> first | (simp; done) | (simp_all; done) | with_reducible rfl
@[simp] theorem State.batchResume_lane (s : State) (other : Lane) : (State.batchResume s).lane other = s.lane other :=
  State.lane_of_lanes (State.batchResume_lanes s) other

@[simp] theorem State.batchLinkLost_lanes (s : State) : (State.batchLinkLost s).lanes = s.lanes := by
  unfold State.batchLinkLost
  try dsimp only
  (repeat' split) <;> first | (simp; done) | (simp_all; done) | with_reducible rfl
@[simp] theorem State.batchLinkLost_lane (s : State) (other : Lane) : (State.batchLinkLost s).lane other = s.lane other :=
  State.lane_of_lanes (State.batchLinkLost_lanes s) other

@[simp] theorem State.connectEnd_lanes (s : State) : (State.connectEnd s).lanes = s.lanes := by
  unfold State.connectEnd
  try dsimp only
  (repeat' split) <;> first | (simp; done) | (simp_all; done) | with_reducible rfl
@[simp] theorem State.connectEnd_lane (s : State) (other : Lane) : (State.connectEnd s).lane other = s.lane other :=
  State.lane_of_lanes (State.connectEnd_lanes s) other

@[simp] theorem State.segmentExpiry_lanes (s : State) : (State.segmentExpiry s).lanes = s.lanes := by
  unfold State.segmentExpiry
  try dsimp only
  (repeat' split) <;> first | (simp; done) | (simp_all; done) | with_reducible rfl
@[simp] theorem State.segmentExpiry_lane (s : State) (other : Lane) : (State.segmentExpiry s).lane other = s.lane other :=
  State.lane_of_lanes (State.segmentExpiry_lanes s) other

@[simp] theorem State.takenExpiry_lanes (s : State) : (State.takenExpiry s).lanes = s.lanes := by
  unfold State.takenExpiry
  try dsimp only
  (repeat' split) <;> first | (simp; done) | (simp_all; done) | with_reducible rfl
@[simp] theorem State.takenExpiry_lane (s : State) (other : Lane) : (State.takenExpiry s).lane other = s.lane other :=
  State.lane_of_lanes (State.takenExpiry_lanes s) other

@[simp] theorem State.jtaken_lanes (s : State) (station seq : Nat) : (State.jtaken s station seq).lanes = s.lanes := by
  unfold State.jtaken
  try dsimp only
  (repeat' split) <;> first | (simp; done) | (simp_all; done) | with_reducible rfl
@[simp] theorem State.jtaken_lane (s : State) (station seq : Nat) (other : Lane) : (State.jtaken s station seq).lane other = s.lane other :=
  State.lane_of_lanes (State.jtaken_lanes s station seq) other

@[simp] theorem State.beginDayDrain_lanes (s : State) : (State.beginDayDrain s).lanes = s.lanes := by
  unfold State.beginDayDrain
  try dsimp only
  (repeat' split) <;> first | (simp; done) | (simp_all; done) | with_reducible rfl
@[simp] theorem State.beginDayDrain_lane (s : State) (other : Lane) : (State.beginDayDrain s).lane other = s.lane other :=
  State.lane_of_lanes (State.beginDayDrain_lanes s) other

@[simp] theorem State.testDayDrainAt_lanes (s : State) (second : Nat) : (State.testDayDrainAt s second).lanes = s.lanes := by
  unfold State.testDayDrainAt
  try dsimp only
  (repeat' split) <;> first | (simp; done) | (simp_all; done) | with_reducible rfl
@[simp] theorem State.testDayDrainAt_lane (s : State) (second : Nat) (other : Lane) : (State.testDayDrainAt s second).lane other = s.lane other :=
  State.lane_of_lanes (State.testDayDrainAt_lanes s second) other

@[simp] theorem State.testDayDrain_lanes (s : State) : (State.testDayDrain s).lanes = s.lanes := by
  unfold State.testDayDrain
  try dsimp only
  (repeat' split) <;> first | (simp; done) | (simp_all; done) | with_reducible rfl
@[simp] theorem State.testDayDrain_lane (s : State) (other : Lane) : (State.testDayDrain s).lane other = s.lane other :=
  State.lane_of_lanes (State.testDayDrain_lanes s) other

@[simp] theorem State.settle_lanes (s : State) : (State.settle s).lanes = s.lanes := by
  unfold State.settle
  try dsimp only
  (repeat' split) <;> first | (simp; done) | (simp_all; done) | with_reducible rfl
@[simp] theorem State.settle_lane (s : State) (other : Lane) : (State.settle s).lane other = s.lane other :=
  State.lane_of_lanes (State.settle_lanes s) other

@[simp] theorem State.doClose_lane_other (r : Request) (s : State) (other : Lane) (hm : other ≠ r.lane) :
    (State.doClose r s).lane other = s.lane other := by
  unfold State.doClose
  try dsimp only
  (repeat' split) <;> first | (simp [hm]; done) | (simp_all; done) | with_reducible rfl

@[simp] theorem State.doCancel_lane_other (r : Request) (s : State) (other : Lane) (hm : other ≠ r.lane) :
    (State.doCancel r s).lane other = s.lane other := by
  unfold State.doCancel
  try dsimp only
  (repeat' split) <;> first | (simp [hm]; done) | (simp_all; done) | with_reducible rfl

@[simp] theorem State.doLaneReset_lane_other (l : Lane) (s : State) (other : Lane) (hm : other ≠ l) :
    (State.doLaneReset l s).lane other = s.lane other := by
  unfold State.doLaneReset
  try dsimp only
  (repeat' split) <;> first | (simp [hm]; done) | (simp_all; done) | with_reducible rfl

@[simp] theorem State.claim_lanes (s : State) : (State.claim s).lanes = s.lanes := by
  unfold State.claim
  try dsimp only
  (repeat' split) <;> first | (simp; done) | (simp_all; done) | with_reducible rfl
@[simp] theorem State.claim_lane (s : State) (other : Lane) : (State.claim s).lane other = s.lane other :=
  State.lane_of_lanes (State.claim_lanes s) other

@[simp] theorem State.takeover_lanes (s : State) : (State.takeover s).lanes = s.lanes := by
  unfold State.takeover
  try dsimp only
  (repeat' split) <;> first | (simp; done) | (simp_all; done) | with_reducible rfl
@[simp] theorem State.takeover_lane (s : State) (other : Lane) : (State.takeover s).lane other = s.lane other :=
  State.lane_of_lanes (State.takeover_lanes s) other

@[simp] theorem State.follow_lanes (s : State) (exchange : Option Station) : (State.follow s exchange).lanes = s.lanes := by
  unfold State.follow
  try dsimp only
  (repeat' split) <;> first | (simp; done) | (simp_all; done) | with_reducible rfl
@[simp] theorem State.follow_lane (s : State) (exchange : Option Station) (other : Lane) : (State.follow s exchange).lane other = s.lane other :=
  State.lane_of_lanes (State.follow_lanes s exchange) other

@[simp] theorem State.losesExchange_lanes (s : State) : (State.losesExchange s).lanes = s.lanes := by
  unfold State.losesExchange
  try dsimp only
  (repeat' split) <;> first | (simp; done) | (simp_all; done) | with_reducible rfl
@[simp] theorem State.losesExchange_lane (s : State) (other : Lane) : (State.losesExchange s).lane other = s.lane other :=
  State.lane_of_lanes (State.losesExchange_lanes s) other

@[simp] theorem State.yield_lanes (s : State) (winner : Option Station) : (State.yield s winner).lanes = s.lanes := by
  unfold State.yield
  try dsimp only
  (repeat' split) <;> first | (simp; done) | (simp_all; done) | with_reducible rfl
@[simp] theorem State.yield_lane (s : State) (winner : Option Station) (other : Lane) : (State.yield s winner).lane other = s.lane other :=
  State.lane_of_lanes (State.yield_lanes s winner) other

@[simp] theorem State.meetRival_lanes (s : State) (n : Station) : (State.meetRival s n).lanes = s.lanes := by
  unfold State.meetRival
  try dsimp only
  (repeat' split) <;> first | (simp; done) | (simp_all; done) | with_reducible rfl
@[simp] theorem State.meetRival_lane (s : State) (n : Station) (other : Lane) : (State.meetRival s n).lane other = s.lane other :=
  State.lane_of_lanes (State.meetRival_lanes s n) other

@[simp] theorem State.nightIdle_lanes (s : State) : (State.nightIdle s).lanes = s.lanes := by
  unfold State.nightIdle
  try dsimp only
  (repeat' split) <;> first | (simp; done) | (simp_all; done) | with_reducible rfl
@[simp] theorem State.nightIdle_lane (s : State) (other : Lane) : (State.nightIdle s).lane other = s.lane other :=
  State.lane_of_lanes (State.nightIdle_lanes s) other

@[simp] theorem State.windowBegins_lanes (s : State) (exchange : Option Station) (d1 : Bool) :
    (State.windowBegins s exchange d1).lanes = s.lanes := by
  unfold State.windowBegins
  try dsimp only
  (repeat' split) <;> first | (simp; done) | (simp_all; done) | with_reducible rfl
@[simp] theorem State.windowBegins_lane (s : State) (exchange : Option Station) (d1 : Bool) (other : Lane) : (State.windowBegins s exchange d1).lane other = s.lane other :=
  State.lane_of_lanes (State.windowBegins_lanes s exchange d1) other

@[simp] theorem State.reachOpen_lanes (s : State) : (State.reachOpen s).lanes = s.lanes := by
  unfold State.reachOpen
  try dsimp only
  (repeat' split) <;> first | (simp; done) | (simp_all; done) | with_reducible rfl
@[simp] theorem State.reachOpen_lane (s : State) (other : Lane) : (State.reachOpen s).lane other = s.lane other :=
  State.lane_of_lanes (State.reachOpen_lanes s) other

@[simp] theorem State.openLate_lanes (s : State) : (State.openLate s).lanes = s.lanes := by
  unfold State.openLate
  try dsimp only
  (repeat' split) <;> first | (simp; done) | (simp_all; done) | with_reducible rfl
@[simp] theorem State.openLate_lane (s : State) (other : Lane) : (State.openLate s).lane other = s.lane other :=
  State.lane_of_lanes (State.openLate_lanes s) other

@[simp] theorem State.openHeld_lanes (s : State) (n : Station) : (State.openHeld s n).lanes = s.lanes := by
  unfold State.openHeld
  try dsimp only
  (repeat' split) <;> first | (simp; done) | (simp_all; done) | with_reducible rfl
@[simp] theorem State.openHeld_lane (s : State) (n : Station) (other : Lane) : (State.openHeld s n).lane other = s.lane other :=
  State.lane_of_lanes (State.openHeld_lanes s n) other

@[simp] theorem State.claimExpiry_lanes (s : State) : (State.claimExpiry s).lanes = s.lanes := by
  unfold State.claimExpiry
  try dsimp only
  (repeat' split) <;> first | (simp; done) | (simp_all; done) | with_reducible rfl
@[simp] theorem State.claimExpiry_lane (s : State) (other : Lane) : (State.claimExpiry s).lane other = s.lane other :=
  State.lane_of_lanes (State.claimExpiry_lanes s) other

@[simp] theorem State.reachD1_lanes (s : State) : (State.reachD1 s).lanes = s.lanes := by
  unfold State.reachD1
  try dsimp only
  (repeat' split) <;> first | (simp; done) | (simp_all; done) | with_reducible rfl
@[simp] theorem State.reachD1_lane (s : State) (other : Lane) : (State.reachD1 s).lane other = s.lane other :=
  State.lane_of_lanes (State.reachD1_lanes s) other

@[simp] theorem State.failReport_lanes (s : State) : (State.failReport s).lanes = s.lanes := by
  unfold State.failReport
  try dsimp only
  (repeat' split) <;> first | (simp; done) | (simp_all; done) | with_reducible rfl
@[simp] theorem State.failReport_lane (s : State) (other : Lane) : (State.failReport s).lane other = s.lane other :=
  State.lane_of_lanes (State.failReport_lanes s) other

@[simp] theorem State.reachD2_lanes (s : State) : (State.reachD2 s).lanes = s.lanes := by
  unfold State.reachD2
  try dsimp only
  (repeat' split) <;> first | (simp; done) | (simp_all; done) | with_reducible rfl
@[simp] theorem State.reachD2_lane (s : State) (other : Lane) : (State.reachD2 s).lane other = s.lane other :=
  State.lane_of_lanes (State.reachD2_lanes s) other

@[simp] theorem State.popNight_lanes (s : State) : (State.popNight s).lanes = s.lanes := by
  unfold State.popNight
  try dsimp only
  (repeat' split) <;> first | (simp; done) | (simp_all; done) | with_reducible rfl
@[simp] theorem State.popNight_lane (s : State) (other : Lane) : (State.popNight s).lane other = s.lane other :=
  State.lane_of_lanes (State.popNight_lanes s) other

@[simp] theorem State.claimTaken_lanes (s : State) (n : Station) : (State.claimTaken s n).lanes = s.lanes := by
  unfold State.claimTaken
  try dsimp only
  (repeat' split) <;> first | (simp; done) | (simp_all; done) | with_reducible rfl
@[simp] theorem State.claimTaken_lane (s : State) (n : Station) (other : Lane) : (State.claimTaken s n).lane other = s.lane other :=
  State.lane_of_lanes (State.claimTaken_lanes s n) other

@[simp] theorem State.heldTaken_lanes (s : State) (n : Station) : (State.heldTaken s n).lanes = s.lanes := by
  unfold State.heldTaken
  try dsimp only
  (repeat' split) <;> first | (simp; done) | (simp_all; done) | with_reducible rfl
@[simp] theorem State.heldTaken_lane (s : State) (n : Station) (other : Lane) : (State.heldTaken s n).lane other = s.lane other :=
  State.lane_of_lanes (State.heldTaken_lanes s n) other

@[simp] theorem State.claimerFollows_lanes (s : State) (n : Station) : (State.claimerFollows s n).lanes = s.lanes := by
  unfold State.claimerFollows
  try dsimp only
  (repeat' split) <;> first | (simp; done) | (simp_all; done) | with_reducible rfl
@[simp] theorem State.claimerFollows_lane (s : State) (n : Station) (other : Lane) : (State.claimerFollows s n).lane other = s.lane other :=
  State.lane_of_lanes (State.claimerFollows_lanes s n) other

@[simp] theorem State.doneTaken_lanes (s : State) (n : Station) (l : Nat) : (State.doneTaken s n l).lanes = s.lanes := by
  unfold State.doneTaken
  try dsimp only
  (repeat' split) <;> first | (simp; done) | (simp_all; done) | with_reducible rfl
@[simp] theorem State.doneTaken_lane (s : State) (n : Station) (l : Nat) (other : Lane) : (State.doneTaken s n l).lane other = s.lane other :=
  State.lane_of_lanes (State.doneTaken_lanes s n l) other

@[simp] theorem State.closedTaken_lanes (s : State) (r : NightResult) : (State.closedTaken s r).lanes = s.lanes := by
  unfold State.closedTaken
  try dsimp only
  (repeat' split) <;> first | (simp; done) | (simp_all; done) | with_reducible rfl
@[simp] theorem State.closedTaken_lane (s : State) (r : NightResult) (other : Lane) : (State.closedTaken s r).lane other = s.lane other :=
  State.lane_of_lanes (State.closedTaken_lanes s r) other

@[simp] theorem State.closedFrom_lanes (s : State) (n : Station) (r : NightResult) :
    (State.closedFrom s n r).lanes = s.lanes := by
  unfold State.closedFrom
  try dsimp only
  (repeat' split) <;> first | (simp; done) | (simp_all; done) | with_reducible rfl
@[simp] theorem State.closedFrom_lane (s : State) (n : Station) (r : NightResult) (other : Lane) : (State.closedFrom s n r).lane other = s.lane other :=
  State.lane_of_lanes (State.closedFrom_lanes s n r) other

@[simp] theorem State.exchangeHeard_lanes (s : State) (n : Station) : (State.exchangeHeard s n).lanes = s.lanes := by
  unfold State.exchangeHeard
  try dsimp only
  (repeat' split) <;> first | (simp; done) | (simp_all; done) | with_reducible rfl
@[simp] theorem State.exchangeHeard_lane (s : State) (n : Station) (other : Lane) : (State.exchangeHeard s n).lane other = s.lane other :=
  State.lane_of_lanes (State.exchangeHeard_lanes s n) other

@[simp] theorem State.nightLinkUp_lanes (s : State) : (State.nightLinkUp s).lanes = s.lanes := by
  unfold State.nightLinkUp
  try dsimp only
  (repeat' split) <;> first | (simp; done) | (simp_all; done) | with_reducible rfl
@[simp] theorem State.nightLinkUp_lane (s : State) (other : Lane) : (State.nightLinkUp s).lane other = s.lane other :=
  State.lane_of_lanes (State.nightLinkUp_lanes s) other

@[simp] theorem State.nightAbsent_lanes (s : State) (n : Station) : (State.nightAbsent s n).lanes = s.lanes := by
  unfold State.nightAbsent
  try dsimp only
  (repeat' split) <;> first | (simp; done) | (simp_all; done) | with_reducible rfl
@[simp] theorem State.nightAbsent_lane (s : State) (n : Station) (other : Lane) : (State.nightAbsent s n).lane other = s.lane other :=
  State.lane_of_lanes (State.nightAbsent_lanes s n) other

@[simp] theorem State.nightSilenced_lanes (s : State) : (State.nightSilenced s).lanes = s.lanes := by
  unfold State.nightSilenced
  try dsimp only
  (repeat' split) <;> first | (simp; done) | (simp_all; done) | with_reducible rfl
@[simp] theorem State.nightSilenced_lane (s : State) (other : Lane) : (State.nightSilenced s).lane other = s.lane other :=
  State.lane_of_lanes (State.nightSilenced_lanes s) other

@[simp] theorem State.hoursChanged_lanes (s : State) : (State.hoursChanged s).lanes = s.lanes := by
  unfold State.hoursChanged
  try dsimp only
  (repeat' split) <;> first | (simp; done) | (simp_all; done) | with_reducible rfl
@[simp] theorem State.hoursChanged_lane (s : State) (other : Lane) : (State.hoursChanged s).lane other = s.lane other :=
  State.lane_of_lanes (State.hoursChanged_lanes s) other

@[simp] theorem State.hoursLeft_lanes (s : State) : (State.hoursLeft s).lanes = s.lanes := by
  unfold State.hoursLeft
  try dsimp only
  (repeat' split) <;> first | (simp; done) | (simp_all; done) | with_reducible rfl
@[simp] theorem State.hoursLeft_lane (s : State) (other : Lane) : (State.hoursLeft s).lane other = s.lane other :=
  State.lane_of_lanes (State.hoursLeft_lanes s) other

@[simp] theorem State.dayRollEffects_lanes (s : State) : (State.dayRollEffects s).lanes = s.lanes := by
  unfold State.dayRollEffects
  try dsimp only
  (repeat' split) <;> first | (simp; done) | (simp_all; done) | with_reducible rfl
@[simp] theorem State.dayRollEffects_lane (s : State) (other : Lane) : (State.dayRollEffects s).lane other = s.lane other :=
  State.lane_of_lanes (State.dayRollEffects_lanes s) other

@[simp] theorem State.hoursEntered_lanes (s : State) : (State.hoursEntered s).lanes = s.lanes := by
  unfold State.hoursEntered
  try dsimp only
  (repeat' split) <;> first | (simp; done) | (simp_all; done) | with_reducible rfl
@[simp] theorem State.hoursEntered_lane (s : State) (other : Lane) : (State.hoursEntered s).lane other = s.lane other :=
  State.lane_of_lanes (State.hoursEntered_lanes s) other

@[simp] theorem State.openPassed_lanes (s : State) : (State.openPassed s).lanes = s.lanes := by
  unfold State.openPassed
  try dsimp only
  (repeat' split) <;> first | (simp; done) | (simp_all; done) | with_reducible rfl
@[simp] theorem State.openPassed_lane (s : State) (other : Lane) : (State.openPassed s).lane other = s.lane other :=
  State.lane_of_lanes (State.openPassed_lanes s) other

@[simp] theorem State.d2Passed_lanes (s : State) : (State.d2Passed s).lanes = s.lanes := by
  unfold State.d2Passed
  try dsimp only
  (repeat' split) <;> first | (simp; done) | (simp_all; done) | with_reducible rfl
@[simp] theorem State.d2Passed_lane (s : State) (other : Lane) : (State.d2Passed s).lane other = s.lane other :=
  State.lane_of_lanes (State.d2Passed_lanes s) other

@[simp] theorem State.timeReached_lanes (s : State) (x0 : TimeEvent) : (State.timeReached s x0).lanes = s.lanes := by
  unfold State.timeReached
  try dsimp only
  (repeat' split) <;> first | (simp; done) | (simp_all; done) | with_reducible rfl
@[simp] theorem State.timeReached_lane (s : State) (x0 : TimeEvent) (other : Lane) : (State.timeReached s x0).lane other = s.lane other :=
  State.lane_of_lanes (State.timeReached_lanes s x0) other

@[simp] theorem State.putTime_lanes (s : State) (day second : Nat) : (State.putTime s day second).lanes = s.lanes := by
  unfold State.putTime
  try dsimp only
  (repeat' split) <;> first | (simp; done) | (simp_all; done) | with_reducible rfl
@[simp] theorem State.putTime_lane (s : State) (day second : Nat) (other : Lane) : (State.putTime s day second).lane other = s.lane other :=
  State.lane_of_lanes (State.putTime_lanes s day second) other

@[simp] theorem State.becomeValid_lanes (s : State) (day second : Nat) :
    (State.becomeValid s day second).lanes = s.lanes := by
  unfold State.becomeValid
  try dsimp only
  (repeat' split) <;> first | (simp; done) | (simp_all; done) | with_reducible rfl
@[simp] theorem State.becomeValid_lane (s : State) (day second : Nat) (other : Lane) : (State.becomeValid s day second).lane other = s.lane other :=
  State.lane_of_lanes (State.becomeValid_lanes s day second) other

@[simp] theorem State.setClock_lanes (s : State) (day second : Nat) : (State.setClock s day second).lanes = s.lanes := by
  unfold State.setClock
  try dsimp only
  (repeat' split) <;> first | (simp; done) | (simp_all; done) | with_reducible rfl
@[simp] theorem State.setClock_lane (s : State) (day second : Nat) (other : Lane) : (State.setClock s day second).lane other = s.lane other :=
  State.lane_of_lanes (State.setClock_lanes s day second) other

@[simp] theorem State.adoptClock_lanes (s : State) (b : Beacon) : (State.adoptClock s b).lanes = s.lanes := by
  unfold State.adoptClock
  try dsimp only
  (repeat' split) <;> first | (simp; done) | (simp_all; done) | with_reducible rfl
@[simp] theorem State.adoptClock_lane (s : State) (b : Beacon) (other : Lane) : (State.adoptClock s b).lane other = s.lane other :=
  State.lane_of_lanes (State.adoptClock_lanes s b) other

@[simp] theorem State.doDayRoll_lanes (s : State) : (State.doDayRoll s).lanes = s.lanes := by
  unfold State.doDayRoll
  try dsimp only
  (repeat' split) <;> first | (simp; done) | (simp_all; done) | with_reducible rfl
@[simp] theorem State.doDayRoll_lane (s : State) (other : Lane) : (State.doDayRoll s).lane other = s.lane other :=
  State.lane_of_lanes (State.doDayRoll_lanes s) other

@[simp] theorem State.doWindowOpen_lanes (s : State) : (State.doWindowOpen s).lanes = s.lanes := by
  unfold State.doWindowOpen
  try dsimp only
  (repeat' split) <;> first | (simp; done) | (simp_all; done) | with_reducible rfl
@[simp] theorem State.doWindowOpen_lane (s : State) (other : Lane) : (State.doWindowOpen s).lane other = s.lane other :=
  State.lane_of_lanes (State.doWindowOpen_lanes s) other

@[simp] theorem State.doDeadline1_lanes (s : State) : (State.doDeadline1 s).lanes = s.lanes := by
  unfold State.doDeadline1
  try dsimp only
  (repeat' split) <;> first | (simp; done) | (simp_all; done) | with_reducible rfl
@[simp] theorem State.doDeadline1_lane (s : State) (other : Lane) : (State.doDeadline1 s).lane other = s.lane other :=
  State.lane_of_lanes (State.doDeadline1_lanes s) other

@[simp] theorem State.doDeadline2_lanes (s : State) : (State.doDeadline2 s).lanes = s.lanes := by
  unfold State.doDeadline2
  try dsimp only
  (repeat' split) <;> first | (simp; done) | (simp_all; done) | with_reducible rfl
@[simp] theorem State.doDeadline2_lane (s : State) (other : Lane) : (State.doDeadline2 s).lane other = s.lane other :=
  State.lane_of_lanes (State.doDeadline2_lanes s) other

@[simp] theorem State.doHoursEdge_lanes (s : State) : (State.doHoursEdge s).lanes = s.lanes := by
  unfold State.doHoursEdge
  try dsimp only
  (repeat' split) <;> first | (simp; done) | (simp_all; done) | with_reducible rfl
@[simp] theorem State.doHoursEdge_lane (s : State) (other : Lane) : (State.doHoursEdge s).lane other = s.lane other :=
  State.lane_of_lanes (State.doHoursEdge_lanes s) other

@[simp] theorem State.timeTaken_lanes (s : State) (n : Station) (day second : Nat) :
    (State.timeTaken s n day second).lanes = s.lanes := by
  unfold State.timeTaken
  try dsimp only
  (repeat' split) <;> first | (simp; done) | (simp_all; done) | with_reducible rfl
@[simp] theorem State.timeTaken_lane (s : State) (n : Station) (day second : Nat) (other : Lane) : (State.timeTaken s n day second).lane other = s.lane other :=
  State.lane_of_lanes (State.timeTaken_lanes s n day second) other

@[simp] theorem State.officeTime_lanes (s : State) (day second : Nat) : (State.officeTime s day second).lanes = s.lanes := by
  unfold State.officeTime
  try dsimp only
  (repeat' split) <;> first | (simp; done) | (simp_all; done) | with_reducible rfl
@[simp] theorem State.officeTime_lane (s : State) (day second : Nat) (other : Lane) : (State.officeTime s day second).lane other = s.lane other :=
  State.lane_of_lanes (State.officeTime_lanes s day second) other

@[simp] theorem State.timeExpiry_lanes (s : State) : (State.timeExpiry s).lanes = s.lanes := by
  unfold State.timeExpiry
  try dsimp only
  (repeat' split) <;> first | (simp; done) | (simp_all; done) | with_reducible rfl
@[simp] theorem State.timeExpiry_lane (s : State) (other : Lane) : (State.timeExpiry s).lane other = s.lane other :=
  State.lane_of_lanes (State.timeExpiry_lanes s) other

@[simp] theorem State.recalcGateway_lanes (s : State) : (State.recalcGateway s).lanes = s.lanes := by
  unfold State.recalcGateway
  try dsimp only
  (repeat' split) <;> first | (simp; done) | (simp_all; done) | with_reducible rfl
@[simp] theorem State.recalcGateway_lane (s : State) (other : Lane) : (State.recalcGateway s).lane other = s.lane other :=
  State.lane_of_lanes (State.recalcGateway_lanes s) other

@[simp] theorem State.rosterRecalc_lanes (s : State) : (State.rosterRecalc s).lanes = s.lanes := by
  unfold State.rosterRecalc
  try dsimp only
  (repeat' split) <;> first | (simp; done) | (simp_all; done) | with_reducible rfl
@[simp] theorem State.rosterRecalc_lane (s : State) (other : Lane) : (State.rosterRecalc s).lane other = s.lane other :=
  State.lane_of_lanes (State.rosterRecalc_lanes s) other

@[simp] theorem State.putBeacon_lanes (s : State) : (State.putBeacon s).lanes = s.lanes := by
  unfold State.putBeacon
  try dsimp only
  (repeat' split) <;> first | (simp; done) | (simp_all; done) | with_reducible rfl
@[simp] theorem State.putBeacon_lane (s : State) (other : Lane) : (State.putBeacon s).lane other = s.lane other :=
  State.lane_of_lanes (State.putBeacon_lanes s) other

@[simp] theorem State.doBeaconDue_lanes (s : State) : (State.doBeaconDue s).lanes = s.lanes := by
  unfold State.doBeaconDue
  try dsimp only
  (repeat' split) <;> first | (simp; done) | (simp_all; done) | with_reducible rfl
@[simp] theorem State.doBeaconDue_lane (s : State) (other : Lane) : (State.doBeaconDue s).lane other = s.lane other :=
  State.lane_of_lanes (State.doBeaconDue_lanes s) other

@[simp] theorem State.keptBeacon_lanes (s : State) : (State.keptBeacon s).lanes = s.lanes := by
  unfold State.keptBeacon
  try dsimp only
  (repeat' split) <;> first | (simp; done) | (simp_all; done) | with_reducible rfl
@[simp] theorem State.keptBeacon_lane (s : State) (other : Lane) : (State.keptBeacon s).lane other = s.lane other :=
  State.lane_of_lanes (State.keptBeacon_lanes s) other

@[simp] theorem State.setEntry_lanes (s : State) (n : Station) (e : PeerEntry) : (State.setEntry s n e).lanes = s.lanes := by
  unfold State.setEntry
  try dsimp only
  (repeat' split) <;> first | (simp; done) | (simp_all; done) | with_reducible rfl
@[simp] theorem State.setEntry_lane (s : State) (n : Station) (e : PeerEntry) (other : Lane) : (State.setEntry s n e).lane other = s.lane other :=
  State.lane_of_lanes (State.setEntry_lanes s n e) other

@[simp] theorem State.becamePresent_lanes (s : State) : (State.becamePresent s).lanes = s.lanes := by
  unfold State.becamePresent
  try dsimp only
  (repeat' split) <;> first | (simp; done) | (simp_all; done) | with_reducible rfl
@[simp] theorem State.becamePresent_lane (s : State) (other : Lane) : (State.becamePresent s).lane other = s.lane other :=
  State.lane_of_lanes (State.becamePresent_lanes s) other

@[simp] theorem State.beaconHeard_lanes (s : State) (n : Station) (b : Beacon) :
    (State.beaconHeard s n b).lanes = s.lanes := by
  unfold State.beaconHeard
  try dsimp only
  (repeat' split) <;> first | (simp; done) | (simp_all; done) | with_reducible rfl
@[simp] theorem State.beaconHeard_lane (s : State) (n : Station) (b : Beacon) (other : Lane) : (State.beaconHeard s n b).lane other = s.lane other :=
  State.lane_of_lanes (State.beaconHeard_lanes s n b) other

@[simp] theorem State.doEntryQuiet_lanes (n : Station) (s : State) : (State.doEntryQuiet n s).lanes = s.lanes := by
  unfold State.doEntryQuiet
  try dsimp only
  (repeat' split) <;> first | (simp; done) | (simp_all; done) | with_reducible rfl
@[simp] theorem State.doEntryQuiet_lane (n : Station) (s : State) (other : Lane) : (State.doEntryQuiet n s).lane other = s.lane other :=
  State.lane_of_lanes (State.doEntryQuiet_lanes n s) other

@[simp] theorem State.pullerAbsent_lanes (s : State) (n : Station) : (State.pullerAbsent s n).lanes = s.lanes := by
  unfold State.pullerAbsent
  try dsimp only
  (repeat' split) <;> first | (simp; done) | (simp_all; done) | with_reducible rfl
@[simp] theorem State.pullerAbsent_lane (s : State) (n : Station) (other : Lane) : (State.pullerAbsent s n).lane other = s.lane other :=
  State.lane_of_lanes (State.pullerAbsent_lanes s n) other

@[simp] theorem State.doEntryAbsent_lanes (n : Station) (s : State) : (State.doEntryAbsent n s).lanes = s.lanes := by
  unfold State.doEntryAbsent
  try dsimp only
  (repeat' split) <;> first | (simp; done) | (simp_all; done) | with_reducible rfl
@[simp] theorem State.doEntryAbsent_lane (n : Station) (s : State) (other : Lane) : (State.doEntryAbsent n s).lane other = s.lane other :=
  State.lane_of_lanes (State.doEntryAbsent_lanes n s) other

@[simp] theorem State.lostNote_lanes (s : State) (l : Lane) : (State.lostNote s l).lanes = s.lanes := by
  unfold State.lostNote
  try dsimp only
  (repeat' split) <;> first | (simp; done) | (simp_all; done) | with_reducible rfl
@[simp] theorem State.lostNote_lane (s : State) (l : Lane) (other : Lane) : (State.lostNote s l).lane other = s.lane other :=
  State.lane_of_lanes (State.lostNote_lanes s l) other

@[simp] theorem State.enterListen_lanes (s : State) : (State.enterListen s).lanes = s.lanes := by
  unfold State.enterListen
  try dsimp only
  (repeat' split) <;> first | (simp; done) | (simp_all; done) | with_reducible rfl
@[simp] theorem State.enterListen_lane (s : State) (other : Lane) : (State.enterListen s).lane other = s.lane other :=
  State.lane_of_lanes (State.enterListen_lanes s) other

@[simp] theorem State.doProfileRead_lanes (bytes : Option (List Byte)) (s : State) :
    (State.doProfileRead bytes s).lanes = s.lanes := by
  unfold State.doProfileRead
  try dsimp only
  (repeat' split) <;> first | (simp; done) | (simp_all; done) | with_reducible rfl
@[simp] theorem State.doProfileRead_lane (bytes : Option (List Byte)) (s : State) (other : Lane) : (State.doProfileRead bytes s).lane other = s.lane other :=
  State.lane_of_lanes (State.doProfileRead_lanes bytes s) other

@[simp] theorem State.doListenExpiry_lanes (s : State) : (State.doListenExpiry s).lanes = s.lanes := by
  unfold State.doListenExpiry
  try dsimp only
  (repeat' split) <;> first | (simp; done) | (simp_all; done) | with_reducible rfl
@[simp] theorem State.doListenExpiry_lane (s : State) (other : Lane) : (State.doListenExpiry s).lane other = s.lane other :=
  State.lane_of_lanes (State.doListenExpiry_lanes s) other

@[simp] theorem State.clearFaults_lanes (s : State) : (State.clearFaults s).lanes = s.lanes := by
  unfold State.clearFaults
  try dsimp only
  (repeat' split) <;> first | (simp; done) | (simp_all; done) | with_reducible rfl
@[simp] theorem State.clearFaults_lane (s : State) (other : Lane) : (State.clearFaults s).lane other = s.lane other :=
  State.lane_of_lanes (State.clearFaults_lanes s) other

@[simp] theorem State.raiseLevels_lanes (s : State) : (State.raiseLevels s).lanes = s.lanes := by
  unfold State.raiseLevels
  try dsimp only
  (repeat' split) <;> first | (simp; done) | (simp_all; done) | with_reducible rfl
@[simp] theorem State.raiseLevels_lane (s : State) (other : Lane) : (State.raiseLevels s).lane other = s.lane other :=
  State.lane_of_lanes (State.raiseLevels_lanes s) other

@[simp] theorem State.clearWork_lane_other (r : Request) (s : State) (other : Lane) (hm : other ≠ r.lane) :
    (State.clearWork r s).lane other = s.lane other := by
  unfold State.clearWork
  try dsimp only
  (repeat' split) <;> first | (simp [hm]; done) | (simp_all; done) | with_reducible rfl

@[simp] theorem State.doClear_lane_other (r : Request) (s : State) (other : Lane) (hm : other ≠ r.lane) :
    (State.doClear r s).lane other = s.lane other := by
  unfold State.doClear
  try dsimp only
  (repeat' split) <;> first | (simp [hm]; done) | (simp_all; done) | with_reducible rfl

end Sys2Proof.Machine
end

