-- ==== Sys2Proof/Laws/Ordered.lean ====
section
/-! SUPPORT. The code order of the item records (R25) and the index order of the labels (R105) through every operation: one lemma
per operation. -/

namespace Sys2Proof.Machine

/-- Putting a record in its place keeps the order. -/
theorem putRecord_ordered (r : ItemRecord) (xs : List ItemRecord) (h : xs.Pairwise fun a b => a.code < b.code) :
    (Sys2Proof.Machine.putRecord r xs).Pairwise fun a b => a.code < b.code := by
  have key : ∀ ys : List ItemRecord, ∀ y ∈ Sys2Proof.Machine.putRecord r ys, y = r ∨ y ∈ ys := by
    intro ys
    induction ys with
    | nil => intro y hy; simp [Sys2Proof.Machine.putRecord] at hy; exact .inl hy
    | cons z zs ih =>
      intro y hy
      unfold Sys2Proof.Machine.putRecord at hy
      split at hy
      · simpa using hy
      · split at hy
        · simp at hy; rcases hy with h | h <;> simp [h]
        · simp at hy
          rcases hy with h | h
          · simp [h]
          · rcases ih y h with h | h <;> simp [h]
  induction xs with
  | nil => simp [Sys2Proof.Machine.putRecord]
  | cons x xs ih =>
    obtain ⟨hx, hxs⟩ := List.pairwise_cons.1 h
    unfold Sys2Proof.Machine.putRecord
    split
    · next hlt =>
      refine List.pairwise_cons.2 ⟨?_, h⟩
      intro y hy
      rcases List.mem_cons.1 hy with rfl | hy
      · exact hlt
      · exact Nat.lt_trans hlt (hx y hy)
    · split
      · next heq => exact List.pairwise_cons.2 ⟨fun y hy => heq ▸ hx y hy, hxs⟩
      · refine List.pairwise_cons.2 ⟨fun y hy => ?_, ih hxs⟩
        rcases key xs y hy with rfl | hy
        · omega
        · exact hx y hy

/-- Putting a label in its place keeps the order. -/
theorem putLabel_ordered (l : Label) (xs : List Label) (h : xs.Pairwise fun a b => a.index < b.index) :
    (putLabel l xs).Pairwise fun a b => a.index < b.index := by
  have key : ∀ ys : List Label, ∀ y ∈ putLabel l ys, y = l ∨ y ∈ ys := by
    intro ys
    induction ys with
    | nil => simp [putLabel]
    | cons z zs ih =>
      intro y hy
      unfold putLabel at hy
      split at hy
      · simpa using hy
      · split at hy
        · rcases List.mem_cons.1 hy with h | h <;> simp [h]
        · rcases List.mem_cons.1 hy with h | h
          · simp [h]
          · rcases ih y h with h | h <;> simp [h]
  induction xs with
  | nil => simp [putLabel]
  | cons x xs ih =>
    obtain ⟨hx, hxs⟩ := List.pairwise_cons.1 h
    unfold putLabel
    split
    · next hlt =>
      refine List.pairwise_cons.2 ⟨fun y hy => ?_, h⟩
      rcases List.mem_cons.1 hy with rfl | hy
      · exact hlt
      · exact Nat.lt_trans hlt (hx y hy)
    · split
      · next heq => exact List.pairwise_cons.2 ⟨fun y hy => heq ▸ hx y hy, hxs⟩
      · refine List.pairwise_cons.2 ⟨fun y hy => ?_, ih hxs⟩
        rcases key xs y hy with rfl | hy
        · omega
        · exact hx y hy

@[simp] theorem foldl_ordered {α : Type} (f : State → α → State) (h : ∀ t x, t.Ordered → (f t x).Ordered) (xs : List α) (s : State)
    (hs : s.Ordered) : (xs.foldl f s).Ordered := by
  induction xs generalizing s with
  | nil => exact hs
  | cons x xs ih => exact ih _ (h _ _ hs)

/-- A change of the Item Table that leaves its records as they are. -/
@[simp] theorem State.onItems_ordered (s : State) (f : ItemTable → ItemTable) (hs : s.Ordered)
    (h : (f s.items).records = s.items.records) : (s.onItems f).Ordered := by
  exact ⟨by rw [State.onItems_items, h]; exact hs.1, hs.2⟩
@[simp] theorem State.onLine_ordered (s : State) f (hs : s.Ordered) : (s.onLine f).Ordered := hs
@[simp] theorem State.onRoster_ordered (s : State) f (hs : s.Ordered) : (s.onRoster f).Ordered := hs
/-- A change of held memory that leaves its labels as they are. -/
@[simp] theorem State.onHeld_ordered (s : State) (f : HeldMemory → HeldMemory) (hs : s.Ordered)
    (h : (f s.held).labels = s.held.labels) : (s.onHeld f).Ordered :=
  ⟨hs.1, by rw [State.onHeld_held, h]; exact hs.2⟩
@[simp] theorem State.onLabels_ordered (s : State) f (hs : s.Ordered) : (s.onLabels f).Ordered := hs
@[simp] theorem State.onRouter_ordered (s : State) f (hs : s.Ordered) : (s.onRouter f).Ordered := hs
@[simp] theorem State.onGuest_ordered (s : State) f (hs : s.Ordered) : (s.onGuest f).Ordered := hs
@[simp] theorem State.onNight_ordered (s : State) f (hs : s.Ordered) : (s.onNight f).Ordered := hs
@[simp] theorem State.onClock_ordered (s : State) f (hs : s.Ordered) : (s.onClock f).Ordered := hs
@[simp] theorem State.onFaults_ordered (s : State) f (hs : s.Ordered) : (s.onFaults f).Ordered := hs
@[simp] theorem State.onStart_ordered (s : State) f (hs : s.Ordered) : (s.onStart f).Ordered := hs
@[simp] theorem State.setJournal_ordered (s : State) b (hs : s.Ordered) : (s.setJournal b).Ordered := hs
@[simp] theorem State.emit_ordered (s : State) o (hs : s.Ordered) : (s.emit o).Ordered := hs
@[simp] theorem State.setSlot_ordered (s : State) i x (hs : s.Ordered) : (s.setSlot i x).Ordered := hs
@[simp] theorem State.onLane_ordered (s : State) l f (hs : s.Ordered) : (s.onLane l f).Ordered := hs
@[simp] theorem State.onBasket_ordered (s : State) l f (hs : s.Ordered) : (s.onBasket l f).Ordered := hs

/-- Updates written out as a record, the Item Table and the labels as they were. -/
@[simp] theorem ordered_mk (s : State) (li : LinePort) (ro : Roster) (la : Vector LaneContext 4) (he : HeldMemory)
    (jo : Option OwnerBatch) (lb : LabelUnit) (r : Router) (g : GuestUnit) (n : Night) (c : Clock) (fa : FaultRecord)
    (st : StartControl) (ou : List Output) (pe : List Instr) (hs : s.Ordered) (h : he.labels = s.held.labels) :
    (State.mk li ro s.items la he jo lb r g n c fa st ou pe).Ordered := ⟨hs.1, by rw [h]; exact hs.2⟩

theorem markSeen_records (t : ItemTable) (v : Nat) : (t.markSeen v).records = t.records := by
  unfold ItemTable.markSeen; split <;> rfl

theorem startWatch_records (t : ItemTable) (c v n : Nat) : (t.startWatch c v n).records = t.records := by
  unfold ItemTable.startWatch; split <;> rfl

theorem reprice_records (t : ItemTable) (n : Nat) (r : ItemRecord) (p : PriceSet) (b : PriceState) :
    (reprice t n r p b).1.records = t.records := by
  unfold reprice
  dsimp only
  split
  · rfl
  · split
    · rfl
    · exact startWatch_records _ _ _ _

@[simp] theorem State.live_ordered (f : State → State) (s : State) (hs : s.Ordered) (hw : ∀ t : State, t.Ordered → (f t).Ordered) :
    (live f s).Ordered := by
  unfold live
  split
  · exact hw _ hs
  · exact hs

@[simp] theorem State.fillDraft_ordered (s : State) (x0 : Draft) (hs : s.Ordered) : (fillDraft s x0).2.Ordered := by
  unfold fillDraft
  try dsimp only
  (repeat' split) <;> first | with_reducible assumption | (simp (maxDischargeDepth := 30) [hs]; done) | (simp_all (maxDischargeDepth := 30); done)

@[simp] theorem State.refillOnce_ordered (s : State) (o : Owner) (hs : s.Ordered) : (State.refillOnce s o).Ordered := by
  unfold State.refillOnce
  split
  · next i d rest _ _ =>
    have h0 := State.fillDraft_ordered (s.onLine fun l => { l with kept := rest }) d hs
    split
    · next h => rw [h] at h0; exact State.setSlot_ordered _ _ _ h0
    · next h => rw [h] at h0; exact h0
  · exact hs

@[simp] theorem State.refill_ordered (s : State) (o : Owner) (hs : s.Ordered) : (State.refill s o).Ordered := by
  unfold State.refill
  try dsimp only
  (repeat' split) <;> first | with_reducible assumption | (simp (maxDischargeDepth := 30) [hs]; done) | (simp_all (maxDischargeDepth := 30); done)

@[simp] theorem State.place_ordered (s : State) (d : Draft) (hs : s.Ordered) : (State.place s d).Ordered := by
  unfold State.place
  try dsimp only
  (repeat' split) <;> first | with_reducible assumption | (simp (maxDischargeDepth := 30) [hs]; done) | (simp_all (maxDischargeDepth := 30); done)

@[simp] theorem State.withdrawBy_ordered (s : State) (change : Slot → Slot) (o : Owner) (p : Frame → Bool) (hs : s.Ordered) :
    (State.withdrawBy s change o p).Ordered := by
  unfold State.withdrawBy
  try dsimp only
  (repeat' split) <;> first | with_reducible assumption | (simp (maxDischargeDepth := 30) [hs]; done) | (simp_all (maxDischargeDepth := 30); done)

@[simp] theorem State.withdraw_ordered (s : State) (o : Owner) (p : Frame → Bool) (hs : s.Ordered) :
    (State.withdraw s o p).Ordered := by
  unfold State.withdraw
  try dsimp only
  (repeat' split) <;> first | with_reducible assumption | (simp (maxDischargeDepth := 30) [hs]; done) | (simp_all (maxDischargeDepth := 30); done)

@[simp] theorem State.withdrawWaiting_ordered (s : State) (o : Owner) (p : Frame → Bool) (hs : s.Ordered) :
    (State.withdrawWaiting s o p).Ordered := by
  unfold State.withdrawWaiting
  try dsimp only
  (repeat' split) <;> first | with_reducible assumption | (simp (maxDischargeDepth := 30) [hs]; done) | (simp_all (maxDischargeDepth := 30); done)

@[simp] theorem State.recalcPressure_ordered (s : State) (hs : s.Ordered) : (State.recalcPressure s).Ordered := by
  unfold State.recalcPressure
  try dsimp only
  (repeat' split) <;> first | with_reducible assumption | (simp (maxDischargeDepth := 30) [hs]; done) | (simp_all (maxDischargeDepth := 30); done)

@[simp] theorem State.handOver_ordered (s : State) (item : CarrierItem) (r : Router) (hs : s.Ordered) :
    (State.handOver s item r).Ordered := by
  unfold State.handOver
  try dsimp only
  (repeat' split) <;> first | with_reducible assumption | (simp (maxDischargeDepth := 30) [hs]; done) | (simp_all (maxDischargeDepth := 30); done)

@[simp] theorem State.turns_ordered (x0 : Nat) (s : State) (hs : s.Ordered) : (State.turns x0 s).Ordered := by
  induction x0 generalizing s with
  | zero => exact hs
  | succ n ih =>
    unfold State.turns
    split
    · split <;> simp [hs]
    · extract_lets r
      clear_value r
      split
      · exact ih _ hs
      · split
        · split
          · exact hs
          · exact hs
        · exact ih _ hs

@[simp] theorem State.schedule_ordered (s : State) (hs : s.Ordered) : (State.schedule s).Ordered := by
  unfold State.schedule
  try dsimp only
  (repeat' split) <;> first | with_reducible assumption | (simp (maxDischargeDepth := 30) [hs]; done) | (simp_all (maxDischargeDepth := 30); done)

@[simp] theorem State.forwardNote_ordered (s : State) (station : Station) (flag : FaultFlag) (raised : Stamp) (hs : s.Ordered) :
    (State.forwardNote s station flag raised).Ordered := by
  unfold State.forwardNote
  try dsimp only
  (repeat' split) <;> first | with_reducible assumption | (simp (maxDischargeDepth := 30) [hs]; done) | (simp_all (maxDischargeDepth := 30); done)

@[simp] theorem State.setFlag_ordered (s : State) (f : FaultFlag) (e : FlagEntry) (hs : s.Ordered) :
    (State.setFlag s f e).Ordered := by
  unfold State.setFlag
  try dsimp only
  (repeat' split) <;> first | with_reducible assumption | (simp (maxDischargeDepth := 30) [hs]; done) | (simp_all (maxDischargeDepth := 30); done)

@[simp] theorem State.noteOutcome_ordered (s : State) (f : FaultFlag) (raised : Stamp) (carried : Bool) (hs : s.Ordered) :
    (State.noteOutcome s f raised carried).Ordered := by
  unfold State.noteOutcome
  try dsimp only
  (repeat' split) <;> first | with_reducible assumption | (simp (maxDischargeDepth := 30) [hs]; done) | (simp_all (maxDischargeDepth := 30); done)

@[simp] theorem State.produceNote_ordered (s : State) (f : FaultFlag) (raised : Stamp) (resend : Bool) (hs : s.Ordered) :
    (State.produceNote s f raised resend).Ordered := by
  unfold State.produceNote
  try dsimp only
  (repeat' split) <;> first | with_reducible assumption | (simp (maxDischargeDepth := 30) [hs]; done) | (simp_all (maxDischargeDepth := 30); done)

@[simp] theorem State.raise_ordered (s : State) (f : FaultFlag) (hs : s.Ordered) : (State.raise s f).Ordered := by
  unfold State.raise
  try dsimp only
  (repeat' split) <;> first | with_reducible assumption | (simp (maxDischargeDepth := 30) [hs]; done) | (simp_all (maxDischargeDepth := 30); done)

@[simp] theorem State.dropFlag_ordered (s : State) (f : FaultFlag) (hs : s.Ordered) : (State.dropFlag s f).Ordered := by
  unfold State.dropFlag
  try dsimp only
  (repeat' split) <;> first | with_reducible assumption | (simp (maxDischargeDepth := 30) [hs]; done) | (simp_all (maxDischargeDepth := 30); done)

@[simp] theorem State.resendNotes_ordered (s : State) (hs : s.Ordered) : (State.resendNotes s).Ordered := by
  unfold State.resendNotes
  refine foldl_ordered _ (fun t f ht => ?_) _ _ hs
  split <;> simp [ht]

@[simp] theorem State.testJournal_ordered (s : State) (hs : s.Ordered) : (State.testJournal s).Ordered := by
  unfold State.testJournal
  try dsimp only
  (repeat' split) <;> first | with_reducible assumption | (simp (maxDischargeDepth := 30) [hs]; done) | (simp_all (maxDischargeDepth := 30); done)

@[simp] theorem State.writeNote_ordered (s : State) (c : RecordContent) (hs : s.Ordered) :
    (State.writeNote s c).Ordered := by
  unfold State.writeNote
  split
  · exact State.testJournal_ordered _ (State.recalcPressure_ordered _ (State.onHeld_ordered s _ hs rfl))
  · exact State.raise_ordered _ _ hs

@[simp] theorem State.endBasket_ordered (s : State) (l : Lane) (type : Option RecordType) (hs : s.Ordered) :
    (State.endBasket s l type).Ordered := by
  unfold State.endBasket
  extract_lets held s1
  have h : held.labels = s.held.labels := by cases type <;> rfl
  exact State.testJournal_ordered _ (State.recalcPressure_ordered _ (State.onBasket_ordered s1 _ _ ⟨hs.1, h ▸ hs.2⟩))

@[simp] theorem State.endOwnerBatch_ordered (s : State) (hs : s.Ordered) : (State.endOwnerBatch s).Ordered := by
  unfold State.endOwnerBatch
  exact State.setJournal_ordered _ _ (State.onHeld_ordered _ _ (State.withdraw_ordered _ _ _ hs) rfl)

@[simp] theorem State.stopSending_ordered (s : State) (hs : s.Ordered) : (State.stopSending s).Ordered := by
  unfold State.stopSending
  try dsimp only
  (repeat' split) <;> first | with_reducible assumption | (simp (maxDischargeDepth := 30) [hs]; done) | (simp_all (maxDischargeDepth := 30); done)

@[simp] theorem State.produceJseg_ordered (s : State) (n : Station) (g : Jseg) (hs : s.Ordered) :
    (State.produceJseg s n g).Ordered := by
  unfold State.produceJseg
  try dsimp only
  (repeat' split) <;> first | with_reducible assumption | (simp (maxDischargeDepth := 30) [hs]; done) | (simp_all (maxDischargeDepth := 30); done)

@[simp] theorem State.chooseBatch_ordered (s : State) (p : Puller) (count : Nat) (hs : s.Ordered) :
    (State.chooseBatch s p count).Ordered := by
  unfold State.chooseBatch
  try dsimp only
  (repeat' split) <;> first | with_reducible assumption | (simp (maxDischargeDepth := 30) [hs]; done) | (simp_all (maxDischargeDepth := 30); done)

@[simp] theorem State.jpullFrom_ordered (s : State) (n : Station) (count : Nat) (hs : s.Ordered) :
    (State.jpullFrom s n count).Ordered := by
  unfold State.jpullFrom
  try dsimp only
  (repeat' split) <;> first | with_reducible assumption | (simp (maxDischargeDepth := 30) [hs]; done) | (simp_all (maxDischargeDepth := 30); done)

@[simp] theorem State.jsegCarried_ordered (s : State) (n : Station) (g : Jseg) (hs : s.Ordered) :
    (State.jsegCarried s n g).Ordered := by
  unfold State.jsegCarried
  try dsimp only
  (repeat' split) <;> first | with_reducible assumption | (simp (maxDischargeDepth := 30) [hs]; done) | (simp_all (maxDischargeDepth := 30); done)

@[simp] theorem State.jrelFrom_ordered (s : State) (p : Puller) (seq : Nat) (hs : s.Ordered) :
    (State.jrelFrom s p seq).Ordered := by
  unfold State.jrelFrom
  try dsimp only
  (repeat' split) <;> first | with_reducible assumption | (simp (maxDischargeDepth := 30) [hs]; done) | (simp_all (maxDischargeDepth := 30); done)

@[simp] theorem State.jpullLocal_ordered (s : State) (hs : s.Ordered) : (State.jpullLocal s).Ordered := by
  unfold State.jpullLocal
  try dsimp only
  (repeat' split) <;> first | with_reducible assumption | (simp (maxDischargeDepth := 30) [hs]; done) | (simp_all (maxDischargeDepth := 30); done)

@[simp] theorem State.takeJpull_ordered (s : State) (hs : s.Ordered) : (State.takeJpull s).Ordered := by
  unfold State.takeJpull
  try dsimp only
  (repeat' split) <;> first | with_reducible assumption | (simp (maxDischargeDepth := 30) [hs]; done) | (simp_all (maxDischargeDepth := 30); done)

@[simp] theorem State.answer_ordered (s : State) (l : Lane) (number : Nat) (code : ResultCode) (contents : Contents) (hs : s.Ordered) :
    (State.answer s l number code contents).Ordered := by
  unfold State.answer
  try dsimp only
  (repeat' split) <;> first | with_reducible assumption | (simp (maxDischargeDepth := 30) [hs]; done) | (simp_all (maxDischargeDepth := 30); done)

@[simp] theorem State.request_ordered (s : State) (r : Request) (f : RequestForm) (work : State → State) (hs : s.Ordered) (hw : (work s).Ordered) :
    (State.request s r f work).Ordered := by
  unfold State.request
  try dsimp only
  (repeat' split) <;> first | with_reducible assumption | (simp (maxDischargeDepth := 30) [hs]; done) | (simp_all (maxDischargeDepth := 30); done)

@[simp] theorem State.openWork_ordered (r : Request) (s : State) (hs : s.Ordered) : (State.openWork r s).Ordered := by
  unfold State.openWork
  try dsimp only
  (repeat' split) <;> first | with_reducible assumption | (simp (maxDischargeDepth := 30) [hs]; done) | (simp_all (maxDischargeDepth := 30); done)

@[simp] theorem State.doOpen_ordered (r : Request) (s : State) (hs : s.Ordered) : (State.doOpen r s).Ordered := by
  unfold State.doOpen
  try dsimp only
  (repeat' split) <;> first | with_reducible assumption | (simp (maxDischargeDepth := 30) [hs]; done) | (simp_all (maxDischargeDepth := 30); done)

@[simp] theorem State.priceWork_ordered (r : Request) (want : ItemKind) (item quantity : Nat) (s : State) (hs : s.Ordered) :
    (State.priceWork r want item quantity s).Ordered := by
  unfold State.priceWork
  try dsimp only
  (repeat' split) <;> first | with_reducible assumption | (simp (maxDischargeDepth := 30) [hs]; done) | (simp_all (maxDischargeDepth := 30); done)

@[simp] theorem State.doPrice_ordered (r : Request) (want : ItemKind) (item quantity : Nat) (s : State) (hs : s.Ordered) :
    (State.doPrice r want item quantity s).Ordered := by
  unfold State.doPrice
  try dsimp only
  (repeat' split) <;> first | with_reducible assumption | (simp (maxDischargeDepth := 30) [hs]; done) | (simp_all (maxDischargeDepth := 30); done)

@[simp] theorem State.voidWork_ordered (r : Request) (line : Nat) (s : State) (hs : s.Ordered) :
    (State.voidWork r line s).Ordered := by
  unfold State.voidWork
  try dsimp only
  (repeat' split) <;> first | with_reducible assumption | (simp (maxDischargeDepth := 30) [hs]; done) | (simp_all (maxDischargeDepth := 30); done)

@[simp] theorem State.doVoid_ordered (r : Request) (line : Nat) (s : State) (hs : s.Ordered) :
    (State.doVoid r line s).Ordered := by
  unfold State.doVoid
  try dsimp only
  (repeat' split) <;> first | with_reducible assumption | (simp (maxDischargeDepth := 30) [hs]; done) | (simp_all (maxDischargeDepth := 30); done)

@[simp] theorem State.askWork_ordered (r : Request) (item : Nat) (s : State) (hs : s.Ordered) :
    (State.askWork r item s).Ordered := by
  unfold State.askWork
  try dsimp only
  (repeat' split) <;> first | with_reducible assumption | (simp (maxDischargeDepth := 30) [hs]; done) | (simp_all (maxDischargeDepth := 30); done)

@[simp] theorem State.doAsk_ordered (r : Request) (item : Nat) (s : State) (hs : s.Ordered) :
    (State.doAsk r item s).Ordered := by
  unfold State.doAsk
  try dsimp only
  (repeat' split) <;> first | with_reducible assumption | (simp (maxDischargeDepth := 30) [hs]; done) | (simp_all (maxDischargeDepth := 30); done)

@[simp] theorem State.totalWork_ordered (r : Request) (s : State) (hs : s.Ordered) : (State.totalWork r s).Ordered := by
  unfold State.totalWork
  try dsimp only
  (repeat' split) <;> first | with_reducible assumption | (simp (maxDischargeDepth := 30) [hs]; done) | (simp_all (maxDischargeDepth := 30); done)

@[simp] theorem State.doTotal_ordered (r : Request) (s : State) (hs : s.Ordered) : (State.doTotal r s).Ordered := by
  unfold State.doTotal
  try dsimp only
  (repeat' split) <;> first | with_reducible assumption | (simp (maxDischargeDepth := 30) [hs]; done) | (simp_all (maxDischargeDepth := 30); done)

@[simp] theorem State.resumeWork_ordered (r : Request) (s : State) (hs : s.Ordered) : (State.resumeWork r s).Ordered := by
  unfold State.resumeWork
  try dsimp only
  (repeat' split) <;> first | with_reducible assumption | (simp (maxDischargeDepth := 30) [hs]; done) | (simp_all (maxDischargeDepth := 30); done)

@[simp] theorem State.doResume_ordered (r : Request) (s : State) (hs : s.Ordered) : (State.doResume r s).Ordered := by
  unfold State.doResume
  try dsimp only
  (repeat' split) <;> first | with_reducible assumption | (simp (maxDischargeDepth := 30) [hs]; done) | (simp_all (maxDischargeDepth := 30); done)

@[simp] theorem State.cashWork_ordered (r : Request) (amount : Nat) (s : State) (hs : s.Ordered) :
    (State.cashWork r amount s).Ordered := by
  unfold State.cashWork
  try dsimp only
  (repeat' split) <;> first | with_reducible assumption | (simp (maxDischargeDepth := 30) [hs]; done) | (simp_all (maxDischargeDepth := 30); done)

@[simp] theorem State.doCash_ordered (r : Request) (amount : Nat) (s : State) (hs : s.Ordered) :
    (State.doCash r amount s).Ordered := by
  unfold State.doCash
  try dsimp only
  (repeat' split) <;> first | with_reducible assumption | (simp (maxDischargeDepth := 30) [hs]; done) | (simp_all (maxDischargeDepth := 30); done)

@[simp] theorem State.closeWork_ordered (r : Request) (s : State) (hs : s.Ordered) : (State.closeWork r s).Ordered := by
  unfold State.closeWork
  try dsimp only
  (repeat' split) <;> first | with_reducible assumption | (simp (maxDischargeDepth := 30) [hs]; done) | (simp_all (maxDischargeDepth := 30); done)

@[simp] theorem State.doFrameBad_ordered (l : Lane) (s : State) (hs : s.Ordered) : (State.doFrameBad l s).Ordered := by
  unfold State.doFrameBad
  try dsimp only
  (repeat' split) <;> first | with_reducible assumption | (simp (maxDischargeDepth := 30) [hs]; done) | (simp_all (maxDischargeDepth := 30); done)

@[simp] theorem State.doUnknown_ordered (l : Lane) (number : Nat) (s : State) (hs : s.Ordered) :
    (State.doUnknown l number s).Ordered := by
  unfold State.doUnknown
  try dsimp only
  (repeat' split) <;> first | with_reducible assumption | (simp (maxDischargeDepth := 30) [hs]; done) | (simp_all (maxDischargeDepth := 30); done)

@[simp] theorem State.doAnswerSent_ordered (l : Lane) (s : State) (hs : s.Ordered) : (State.doAnswerSent l s).Ordered := by
  unfold State.doAnswerSent
  try dsimp only
  (repeat' split) <;> first | with_reducible assumption | (simp (maxDischargeDepth := 30) [hs]; done) | (simp_all (maxDischargeDepth := 30); done)

@[simp] theorem State.doBreakEnd_ordered (l : Lane) (s : State) (hs : s.Ordered) : (State.doBreakEnd l s).Ordered := by
  unfold State.doBreakEnd
  try dsimp only
  (repeat' split) <;> first | with_reducible assumption | (simp (maxDischargeDepth := 30) [hs]; done) | (simp_all (maxDischargeDepth := 30); done)

@[simp] theorem State.answerCard_ordered (s : State) (l : Lane) (code : ResultCode) (contents : Contents) (hs : s.Ordered) :
    (State.answerCard s l code contents).Ordered := by
  unfold State.answerCard
  try dsimp only
  (repeat' split) <;> first | with_reducible assumption | (simp (maxDischargeDepth := 30) [hs]; done) | (simp_all (maxDischargeDepth := 30); done)

@[simp] theorem State.endAuth_ordered (s : State) (l : Lane) (late : Option Decision) (hs : s.Ordered) :
    (State.endAuth s l late).Ordered := by
  unfold State.endAuth
  try dsimp only
  (repeat' split) <;> first | with_reducible assumption | (simp (maxDischargeDepth := 30) [hs]; done) | (simp_all (maxDischargeDepth := 30); done)

@[simp] theorem State.standInEffect_ordered (s : State) (l : Lane) (amount : Nat) (hs : s.Ordered) :
    (State.standInEffect s l amount).Ordered := by
  unfold State.standInEffect
  try dsimp only
  (repeat' split) <;> first | with_reducible assumption | (simp (maxDischargeDepth := 30) [hs]; done) | (simp_all (maxDischargeDepth := 30); done)

@[simp] theorem State.standIn_ordered (s : State) (l : Lane) (late : Bool) (hs : s.Ordered) :
    (State.standIn s l late).Ordered := by
  unfold State.standIn
  try dsimp only
  (repeat' split) <;> first | with_reducible assumption | (simp (maxDischargeDepth := 30) [hs]; done) | (simp_all (maxDischargeDepth := 30); done)

@[simp] theorem State.lateAnswer_ordered (s : State) (l : Lane) (basket : Nat) (d : Decision) (hs : s.Ordered) :
    (State.lateAnswer s l basket d).Ordered := by
  unfold State.lateAnswer
  try dsimp only
  (repeat' split) <;> first | with_reducible assumption | (simp (maxDischargeDepth := 30) [hs]; done) | (simp_all (maxDischargeDepth := 30); done)

@[simp] theorem State.decideCard_ordered (s : State) (l : Lane) (amount : Nat) (d : Decision) (hs : s.Ordered) :
    (State.decideCard s l amount d).Ordered := by
  unfold State.decideCard
  try dsimp only
  (repeat' split) <;> first | with_reducible assumption | (simp (maxDischargeDepth := 30) [hs]; done) | (simp_all (maxDischargeDepth := 30); done)

@[simp] theorem State.takeAnswer_ordered (s : State) (l : Lane) (basket : Nat) (d : Decision) (hs : s.Ordered) :
    (State.takeAnswer s l basket d).Ordered := by
  unfold State.takeAnswer
  try dsimp only
  (repeat' split) <;> first | with_reducible assumption | (simp (maxDischargeDepth := 30) [hs]; done) | (simp_all (maxDischargeDepth := 30); done)

@[simp] theorem State.doAuthTimer_ordered (l : Lane) (s : State) (hs : s.Ordered) : (State.doAuthTimer l s).Ordered := by
  unfold State.doAuthTimer
  try dsimp only
  (repeat' split) <;> first | with_reducible assumption | (simp (maxDischargeDepth := 30) [hs]; done) | (simp_all (maxDischargeDepth := 30); done)

@[simp] theorem State.doLateExpiry_ordered (l : Lane) (s : State) (hs : s.Ordered) : (State.doLateExpiry l s).Ordered := by
  unfold State.doLateExpiry
  try dsimp only
  (repeat' split) <;> first | with_reducible assumption | (simp (maxDischargeDepth := 30) [hs]; done) | (simp_all (maxDischargeDepth := 30); done)

@[simp] theorem State.breakLane_ordered (s : State) (l : Lane) (hs : s.Ordered) : (State.breakLane s l).Ordered := by
  unfold State.breakLane
  try dsimp only
  (repeat' split) <;> first | with_reducible assumption | (simp (maxDischargeDepth := 30) [hs]; done) | (simp_all (maxDischargeDepth := 30); done)

@[simp] theorem State.writeOff_ordered (s : State) (l : Lane) (hs : s.Ordered) : (State.writeOff s l).Ordered := by
  unfold State.writeOff
  try dsimp only
  (repeat' split) <;> first | with_reducible assumption | (simp (maxDischargeDepth := 30) [hs]; done) | (simp_all (maxDischargeDepth := 30); done)

@[simp] theorem State.putRecord_ordered (s : State) (r : ItemRecord) (hs : s.Ordered) : (State.putRecord s r).Ordered :=
  ⟨Sys2Proof.Machine.putRecord_ordered r _ hs.1, hs.2⟩

@[simp] theorem State.removeRecord_ordered (s : State) (code : Nat) (hs : s.Ordered) :
    (State.removeRecord s code).Ordered := ⟨List.Pairwise.filter _ hs.1, hs.2⟩

@[simp] theorem State.placePull_ordered (s : State) (n : Station) (hs : s.Ordered) : (State.placePull s n).Ordered := by
  unfold State.placePull
  try dsimp only
  (repeat' split) <;> first | with_reducible assumption | (simp (maxDischargeDepth := 30) [hs]; done) | (simp_all (maxDischargeDepth := 30); done)

@[simp] theorem State.setPull_ordered (s : State) (p : Option Pull) (hs : s.Ordered) : (State.setPull s p).Ordered := by
  unfold State.setPull
  try dsimp only
  (repeat' split) <;> first | with_reducible assumption | (simp (maxDischargeDepth := 30) [hs]; done) | (simp_all (maxDischargeDepth := 30); done)

@[simp] theorem State.touch_ordered (s : State) (code : Nat) (hs : s.Ordered) : (State.touch s code).Ordered := by
  unfold State.touch
  try dsimp only
  (repeat' split) <;> first | with_reducible assumption | (simp (maxDischargeDepth := 30) [hs]; done) | (simp_all (maxDischargeDepth := 30); done)

@[simp] theorem State.releaseIncrease_ordered (s : State) (r : ItemRecord) (hs : s.Ordered) :
    (State.releaseIncrease s r).Ordered := by
  unfold State.releaseIncrease
  exact State.onItems_ordered _ _ (by simp [hs]) rfl

@[simp] theorem State.confirmStation_ordered (s : State) (r : ItemRecord) (p : Pending) (n : Station) (hs : s.Ordered) :
    (State.confirmStation s r p n).Ordered := by
  unfold State.confirmStation
  try dsimp only
  (repeat' split) <;> first | with_reducible assumption | (simp (maxDischargeDepth := 30) [hs]; done) | (simp_all (maxDischargeDepth := 30); done)

@[simp] theorem State.applyShown_ordered (s : State) (item version : Nat) (n : Station) (hs : s.Ordered) :
    (State.applyShown s item version n).Ordered := by
  unfold State.applyShown
  try dsimp only
  (repeat' split) <;> first | with_reducible assumption | (simp (maxDischargeDepth := 30) [hs]; done) | (simp_all (maxDischargeDepth := 30); done)

@[simp] theorem State.defer_ordered (s : State) (p : Payload) (hs : s.Ordered) : (State.defer s p).Ordered := by
  unfold State.defer
  try dsimp only
  (repeat' split) <;> first | with_reducible assumption | (simp (maxDischargeDepth := 30) [hs]; done) | (simp_all (maxDischargeDepth := 30); done)

@[simp] theorem State.placeOwn_ordered (s : State) (p : Payload) (applied : Bool) (hs : s.Ordered) :
    (State.placeOwn s p applied).Ordered := by
  unfold State.placeOwn
  try dsimp only
  (repeat' split) <;> first | with_reducible assumption | (simp (maxDischargeDepth := 30) [hs]; done) | (simp_all (maxDischargeDepth := 30); done)

@[simp] theorem State.ownShown_ordered (s : State) (item version : Nat) (hs : s.Ordered) :
    (State.ownShown s item version).Ordered := by
  unfold State.ownShown
  try dsimp only
  (repeat' split) <;> first | with_reducible assumption | (simp (maxDischargeDepth := 30) [hs]; done) | (simp_all (maxDischargeDepth := 30); done)

@[simp] theorem State.setLabel_ordered (s : State) (l : Label) (hs : s.Ordered) : (State.setLabel s l).Ordered :=
  ⟨hs.1, putLabel_ordered l _ hs.2⟩

@[simp] theorem State.enqueueLabel_ordered (s : State) (index : Nat) (hs : s.Ordered) :
    (State.enqueueLabel s index).Ordered := by
  unfold State.enqueueLabel
  try dsimp only
  (repeat' split) <;> first | with_reducible assumption | (simp (maxDischargeDepth := 30) [hs]; done) | (simp_all (maxDischargeDepth := 30); done)

@[simp] theorem State.unqueueLabel_ordered (s : State) (index : Nat) (hs : s.Ordered) :
    (State.unqueueLabel s index).Ordered := by
  unfold State.unqueueLabel
  try dsimp only
  (repeat' split) <;> first | with_reducible assumption | (simp (maxDischargeDepth := 30) [hs]; done) | (simp_all (maxDischargeDepth := 30); done)

@[simp] theorem State.queueLabel_ordered (s : State) (l : Label) (hs : s.Ordered) : (State.queueLabel s l).Ordered := by
  unfold State.queueLabel
  try dsimp only
  (repeat' split) <;> first | with_reducible assumption | (simp (maxDischargeDepth := 30) [hs]; done) | (simp_all (maxDischargeDepth := 30); done)

@[simp] theorem State.settleLabel_ordered (s : State) (l : Label) (hs : s.Ordered) : (State.settleLabel s l).Ordered := by
  unfold State.settleLabel
  try dsimp only
  (repeat' split) <;> first | with_reducible assumption | (simp (maxDischargeDepth := 30) [hs]; done) | (simp_all (maxDischargeDepth := 30); done)

@[simp] theorem State.startExchange_ordered (s : State) (hs : s.Ordered) : (State.startExchange s).Ordered := by
  unfold State.startExchange
  try dsimp only
  (repeat' split) <;> first | with_reducible assumption | (simp (maxDischargeDepth := 30) [hs]; done) | (simp_all (maxDischargeDepth := 30); done)

@[simp] theorem State.voidExchange_ordered (s : State) (index : Nat) (hs : s.Ordered) :
    (State.voidExchange s index).Ordered := by
  unfold State.voidExchange
  try dsimp only
  (repeat' split) <;> first | with_reducible assumption | (simp (maxDischargeDepth := 30) [hs]; done) | (simp_all (maxDischargeDepth := 30); done)

@[simp] theorem State.confirmCheck_ordered (s : State) (item : Nat) (hs : s.Ordered) :
    (State.confirmCheck s item).Ordered := by
  unfold State.confirmCheck
  try dsimp only
  (repeat' split) <;> first | with_reducible assumption | (simp (maxDischargeDepth := 30) [hs]; done) | (simp_all (maxDischargeDepth := 30); done)

@[simp] theorem State.labelChanged_ordered (s : State) (l : Label) (hs : s.Ordered) : (State.labelChanged s l).Ordered := by
  unfold State.labelChanged
  try dsimp only
  (repeat' split) <;> first | with_reducible assumption | (simp (maxDischargeDepth := 30) [hs]; done) | (simp_all (maxDischargeDepth := 30); done)

@[simp] theorem State.itemChanged_ordered (s : State) (item : Nat) (hs : s.Ordered) :
    (State.itemChanged s item).Ordered := by
  unfold State.itemChanged
  split
  · exact hs
  · have h := foldl_ordered State.labelChanged (fun t l ht => State.labelChanged_ordered t l ht) (s.held.bound item) s hs
    simp [h]

@[simp] theorem State.endVoid_ordered (s : State) (index : Nat) (hs : s.Ordered) : (State.endVoid s index).Ordered := by
  unfold State.endVoid
  try dsimp only
  (repeat' split) <;> first | with_reducible assumption | (simp (maxDischargeDepth := 30) [hs]; done) | (simp_all (maxDischargeDepth := 30); done)

@[simp] theorem State.doLabelAck_ordered (radioId : Nat) (battery : Fin 4) (s : State) (hs : s.Ordered) :
    (State.doLabelAck radioId battery s).Ordered := by
  unfold State.doLabelAck
  try dsimp only
  (repeat' split) <;> first | with_reducible assumption | (simp (maxDischargeDepth := 30) [hs]; done) | (simp_all (maxDischargeDepth := 30); done)

@[simp] theorem State.labelUnanswered_ordered (s : State) (l : Label) (changed : Bool) (hs : s.Ordered) :
    (State.labelUnanswered s l changed).Ordered := by
  unfold State.labelUnanswered
  try dsimp only
  (repeat' split) <;> first | with_reducible assumption | (simp (maxDischargeDepth := 30) [hs]; done) | (simp_all (maxDischargeDepth := 30); done)

@[simp] theorem State.doUpdateTimeout_ordered (s : State) (hs : s.Ordered) : (State.doUpdateTimeout s).Ordered := by
  unfold State.doUpdateTimeout
  try dsimp only
  (repeat' split) <;> first | with_reducible assumption | (simp (maxDischargeDepth := 30) [hs]; done) | (simp_all (maxDischargeDepth := 30); done)

@[simp] theorem State.doNotBefore_ordered (index : Nat) (s : State) (hs : s.Ordered) :
    (State.doNotBefore index s).Ordered := by
  unfold State.doNotBefore
  try dsimp only
  (repeat' split) <;> first | with_reducible assumption | (simp (maxDischargeDepth := 30) [hs]; done) | (simp_all (maxDischargeDepth := 30); done)

@[simp] theorem State.readyLabel_ordered (s : State) (l : Label) (hs : s.Ordered) : (State.readyLabel s l).Ordered := by
  unfold State.readyLabel
  try dsimp only
  (repeat' split) <;> first | with_reducible assumption | (simp (maxDischargeDepth := 30) [hs]; done) | (simp_all (maxDischargeDepth := 30); done)

@[simp] theorem State.readyPass_ordered (s : State) (hs : s.Ordered) : (State.readyPass s).Ordered := by
  unfold State.readyPass
  have h := foldl_ordered State.readyLabel (fun t l ht => State.readyLabel_ordered t l ht) s.held.labels s hs
  have h2 := foldl_ordered State.confirmCheck (fun t l ht => State.confirmCheck_ordered t l ht) (itemsOf s.held.labels) _ h
  simp [h2]

@[simp] theorem State.dropRecord_ordered (s : State) (code : Nat) (hs : s.Ordered) : (State.dropRecord s code).Ordered := by
  unfold State.dropRecord
  exact State.itemChanged_ordered _ _ (State.onItems_ordered _ _ (State.removeRecord_ordered s code hs) rfl)

@[simp] theorem State.applyLeave_ordered (s : State) (r : ItemRecord) (n : Station) (hs : s.Ordered) :
    (State.applyLeave s r n).Ordered := by
  unfold State.applyLeave
  try dsimp only
  (repeat' split) <;> first | with_reducible assumption | (simp (maxDischargeDepth := 30) [hs]; done) | (simp_all (maxDischargeDepth := 30); done)

@[simp] theorem State.applyHold_ordered (s : State) (item : Nat) (n : Station) (join : Bool) (hs : s.Ordered) :
    (State.applyHold s item n join).Ordered := by
  unfold State.applyHold
  try dsimp only
  (repeat' split) <;> first | with_reducible assumption | (simp (maxDischargeDepth := 30) [hs]; done) | (simp_all (maxDischargeDepth := 30); done)

@[simp] theorem State.ownHold_ordered (s : State) (item : Nat) (join : Bool) (hs : s.Ordered) :
    (State.ownHold s item join).Ordered := by
  unfold State.ownHold
  try dsimp only
  (repeat' split) <;> first | with_reducible assumption | (simp (maxDischargeDepth := 30) [hs]; done) | (simp_all (maxDischargeDepth := 30); done)

@[simp] theorem State.ownOutcome_ordered (s : State) (f : Frame) (carried : Bool) (hs : s.Ordered) :
    (State.ownOutcome s f carried).Ordered := by
  unfold State.ownOutcome
  try dsimp only
  (repeat' split) <;> first | with_reducible assumption | (simp (maxDischargeDepth := 30) [hs]; done) | (simp_all (maxDischargeDepth := 30); done)

@[simp] theorem State.flushDeferred_ordered (s : State) (hs : s.Ordered) : (State.flushDeferred s).Ordered := by
  unfold State.flushDeferred
  exact foldl_ordered _ (fun t p ht => by simp [ht]) _ _ (State.onItems_ordered _ _ hs rfl)

@[simp] theorem State.markSeen_ordered (s : State) (version : Nat) (hs : s.Ordered) :
    (State.markSeen s version).Ordered := State.onItems_ordered _ _ hs (markSeen_records _ _)

@[simp] theorem State.refuseSet_ordered (s : State) (p : PriceSet) (hs : s.Ordered) : (State.refuseSet s p).Ordered := by
  unfold State.refuseSet
  try dsimp only
  (repeat' split) <;> first | with_reducible assumption | (simp (maxDischargeDepth := 30) [hs]; done) | (simp_all (maxDischargeDepth := 30); done)

@[simp] theorem State.setChanged_ordered (s : State) (p : PriceSet) (hs : s.Ordered) : (State.setChanged s p).Ordered := by
  unfold State.setChanged
  try dsimp only
  (repeat' split) <;> first | with_reducible assumption | (simp (maxDischargeDepth := 30) [hs]; done) | (simp_all (maxDischargeDepth := 30); done)

@[simp] theorem State.delist_ordered (s : State) (r : ItemRecord) (p : PriceSet) (hs : s.Ordered) :
    (State.delist s r p).Ordered := by
  have h1 : (s.onItems fun t => t.unwatch r.code).Ordered := State.onItems_ordered _ _ hs rfl
  unfold State.delist
  dsimp only
  (repeat' split) <;> simp [hs, h1]

@[simp] theorem State.applySet_ordered (s : State) (p : PriceSet) (hs : s.Ordered) : (State.applySet s p).Ordered := by
  unfold State.applySet
  split
  · split
    · simp [hs]
    · split
      · simp [hs]
      · split
        · simp [hs]
        · next r _ _ _ _ b _ =>
          have h := State.onItems_ordered s (fun _ => (reprice s.items s.now r p (corrected p.kind b)).1) hs
            (reprice_records _ _ _ _ _)
          simp [h]
  · (repeat' split) <;> simp [hs]

@[simp] theorem State.doWatchExpiry_ordered (s : State) (hs : s.Ordered) : (State.doWatchExpiry s).Ordered := by
  unfold State.doWatchExpiry
  try dsimp only
  (repeat' split) <;> first | with_reducible assumption | (simp (maxDischargeDepth := 30) [hs]; done) | (simp_all (maxDischargeDepth := 30); done)

@[simp] theorem State.labelLeft_ordered (s : State) (item : Nat) (hs : s.Ordered) : (State.labelLeft s item).Ordered := by
  unfold State.labelLeft
  try dsimp only
  (repeat' split) <;> first | with_reducible assumption | (simp (maxDischargeDepth := 30) [hs]; done) | (simp_all (maxDischargeDepth := 30); done)

@[simp] theorem State.removeLabel_ordered (s : State) (l : Label) (hs : s.Ordered) : (State.removeLabel s l).Ordered :=
  ⟨hs.1, List.Pairwise.filter _ hs.2⟩

@[simp] theorem State.bindNew_ordered (r : Request) (radioId item : Nat) (s : State) (hs : s.Ordered) :
    (State.bindNew r radioId item s).Ordered := by
  unfold State.bindNew
  try dsimp only
  (repeat' split) <;> first | with_reducible assumption | (simp (maxDischargeDepth := 30) [hs]; done) | (simp_all (maxDischargeDepth := 30); done)

@[simp] theorem State.rebound_ordered (s : State) (l : Label) (hs : s.Ordered) : (State.rebound s l).Ordered := by
  unfold State.rebound
  try dsimp only
  (repeat' split) <;> first | with_reducible assumption | (simp (maxDischargeDepth := 30) [hs]; done) | (simp_all (maxDischargeDepth := 30); done)

@[simp] theorem State.rebind_ordered (r : Request) (l : Label) (item : Nat) (s : State) (hs : s.Ordered) :
    (State.rebind r l item s).Ordered := by
  unfold State.rebind
  try dsimp only
  (repeat' split) <;> first | with_reducible assumption | (simp (maxDischargeDepth := 30) [hs]; done) | (simp_all (maxDischargeDepth := 30); done)

@[simp] theorem State.bindWork_ordered (r : Request) (radioId item : Nat) (s : State) (hs : s.Ordered) :
    (State.bindWork r radioId item s).Ordered := by
  unfold State.bindWork
  try dsimp only
  (repeat' split) <;> first | with_reducible assumption | (simp (maxDischargeDepth := 30) [hs]; done) | (simp_all (maxDischargeDepth := 30); done)

@[simp] theorem State.doBind_ordered (r : Request) (radioId item : Nat) (s : State) (hs : s.Ordered) :
    (State.doBind r radioId item s).Ordered := by
  unfold State.doBind
  try dsimp only
  (repeat' split) <;> first | with_reducible assumption | (simp (maxDischargeDepth := 30) [hs]; done) | (simp_all (maxDischargeDepth := 30); done)

@[simp] theorem State.unbindWork_ordered (r : Request) (radioId : Nat) (s : State) (hs : s.Ordered) :
    (State.unbindWork r radioId s).Ordered := by
  unfold State.unbindWork
  try dsimp only
  (repeat' split) <;> first | with_reducible assumption | (simp (maxDischargeDepth := 30) [hs]; done) | (simp_all (maxDischargeDepth := 30); done)

@[simp] theorem State.doUnbind_ordered (r : Request) (radioId : Nat) (s : State) (hs : s.Ordered) :
    (State.doUnbind r radioId s).Ordered := by
  unfold State.doUnbind
  try dsimp only
  (repeat' split) <;> first | with_reducible assumption | (simp (maxDischargeDepth := 30) [hs]; done) | (simp_all (maxDischargeDepth := 30); done)

@[simp] theorem State.releaseWork_ordered (r : Request) (item : Nat) (s : State) (hs : s.Ordered) :
    (State.releaseWork r item s).Ordered := by
  unfold State.releaseWork
  have h := foldl_ordered State.removeLabel (fun t l ht => State.removeLabel_ordered t l ht)
    ((s.held.bound item).filter fun l => l.state == .faulted) s hs
  dsimp only
  split <;> simp [h]

@[simp] theorem State.doRelease_ordered (r : Request) (item : Nat) (s : State) (hs : s.Ordered) :
    (State.doRelease r item s).Ordered := by
  unfold State.doRelease
  try dsimp only
  (repeat' split) <;> first | with_reducible assumption | (simp (maxDischargeDepth := 30) [hs]; done) | (simp_all (maxDischargeDepth := 30); done)

@[simp] theorem State.labelWork_ordered (r : Request) (radioId : Nat) (s : State) (hs : s.Ordered) :
    (State.labelWork r radioId s).Ordered := by
  unfold State.labelWork
  try dsimp only
  (repeat' split) <;> first | with_reducible assumption | (simp (maxDischargeDepth := 30) [hs]; done) | (simp_all (maxDischargeDepth := 30); done)

@[simp] theorem State.doLabel_ordered (r : Request) (radioId : Nat) (s : State) (hs : s.Ordered) :
    (State.doLabel r radioId s).Ordered := by
  unfold State.doLabel
  try dsimp only
  (repeat' split) <;> first | with_reducible assumption | (simp (maxDischargeDepth := 30) [hs]; done) | (simp_all (maxDischargeDepth := 30); done)

@[simp] theorem State.setServing_ordered (s : State) (v : Option Serving) (hs : s.Ordered) :
    (State.setServing s v).Ordered := by
  unfold State.setServing
  exact State.withdraw_ordered _ _ _ (State.onItems_ordered _ _ (State.onLine_ordered s _ hs) rfl)

@[simp] theorem State.placeNext_ordered (s : State) (hs : s.Ordered) : (State.placeNext s).Ordered := by
  unfold State.placeNext
  try dsimp only
  (repeat' split) <;> first | with_reducible assumption | (simp (maxDischargeDepth := 30) [hs]; done) | (simp_all (maxDischargeDepth := 30); done)

@[simp] theorem State.busyChunk_ordered (s : State) (n : Station) (hs : s.Ordered) : (State.busyChunk s n).Ordered := by
  unfold State.busyChunk
  try dsimp only
  (repeat' split) <;> first | with_reducible assumption | (simp (maxDischargeDepth := 30) [hs]; done) | (simp_all (maxDischargeDepth := 30); done)

@[simp] theorem State.servePull_ordered (s : State) (n : Station) (hs : s.Ordered) : (State.servePull s n).Ordered := by
  unfold State.servePull
  try dsimp only
  (repeat' split) <;> first | with_reducible assumption | (simp (maxDischargeDepth := 30) [hs]; done) | (simp_all (maxDischargeDepth := 30); done)

@[simp] theorem State.chunkOutcome_ordered (s : State) (c : Chunk) (carried : Bool) (hs : s.Ordered) :
    (State.chunkOutcome s c carried).Ordered := by
  unfold State.chunkOutcome
  try dsimp only
  (repeat' split) <;> first | with_reducible assumption | (simp (maxDischargeDepth := 30) [hs]; done) | (simp_all (maxDischargeDepth := 30); done)

@[simp] theorem State.enterReady_ordered (s : State) (hs : s.Ordered) : (State.enterReady s).Ordered := by
  unfold State.enterReady
  try dsimp only
  (repeat' split) <;> first | with_reducible assumption | (simp (maxDischargeDepth := 30) [hs]; done) | (simp_all (maxDischargeDepth := 30); done)

@[simp] theorem State.checkReady_ordered (s : State) (hs : s.Ordered) : (State.checkReady s).Ordered := by
  unfold State.checkReady
  try dsimp only
  (repeat' split) <;> first | with_reducible assumption | (simp (maxDischargeDepth := 30) [hs]; done) | (simp_all (maxDischargeDepth := 30); done)

@[simp] theorem State.tryPull_ordered (s : State) (hs : s.Ordered) : (State.tryPull s).Ordered := by
  unfold State.tryPull
  try dsimp only
  (repeat' split) <;> first | with_reducible assumption | (simp (maxDischargeDepth := 30) [hs]; done) | (simp_all (maxDischargeDepth := 30); done)

@[simp] theorem State.requestRepair_ordered (s : State) (hs : s.Ordered) : (State.requestRepair s).Ordered := by
  unfold State.requestRepair
  try dsimp only
  (repeat' split) <;> first | with_reducible assumption | (simp (maxDischargeDepth := 30) [hs]; done) | (simp_all (maxDischargeDepth := 30); done)

@[simp] theorem State.pullEnded_ordered (s : State) (hs : s.Ordered) : (State.pullEnded s).Ordered := by
  unfold State.pullEnded
  try dsimp only
  (repeat' split) <;> first | with_reducible assumption | (simp (maxDischargeDepth := 30) [hs]; done) | (simp_all (maxDischargeDepth := 30); done)

@[simp] theorem State.targetFailed_ordered (s : State) (p : Pull) (hs : s.Ordered) : (State.targetFailed s p).Ordered := by
  unfold State.targetFailed
  try dsimp only
  (repeat' split) <;> first | with_reducible assumption | (simp (maxDischargeDepth := 30) [hs]; done) | (simp_all (maxDischargeDepth := 30); done)

@[simp] theorem State.abandonPull_ordered (s : State) (hs : s.Ordered) : (State.abandonPull s).Ordered := by
  unfold State.abandonPull
  try dsimp only
  (repeat' split) <;> first | with_reducible assumption | (simp (maxDischargeDepth := 30) [hs]; done) | (simp_all (maxDischargeDepth := 30); done)

@[simp] theorem State.pullOutcome_ordered (s : State) (dest : Option Station) (carried : Bool) (hs : s.Ordered) :
    (State.pullOutcome s dest carried).Ordered := by
  unfold State.pullOutcome
  try dsimp only
  (repeat' split) <;> first | with_reducible assumption | (simp (maxDischargeDepth := 30) [hs]; done) | (simp_all (maxDischargeDepth := 30); done)

@[simp] theorem State.doPullTimer_ordered (s : State) (hs : s.Ordered) : (State.doPullTimer s).Ordered := by
  unfold State.doPullTimer
  try dsimp only
  (repeat' split) <;> first | with_reducible assumption | (simp (maxDischargeDepth := 30) [hs]; done) | (simp_all (maxDischargeDepth := 30); done)

@[simp] theorem State.peerLeft_ordered (s : State) (n : Station) (hs : s.Ordered) : (State.peerLeft s n).Ordered := by
  unfold State.peerLeft
  try dsimp only
  (repeat' split) <;> first | with_reducible assumption | (simp (maxDischargeDepth := 30) [hs]; done) | (simp_all (maxDischargeDepth := 30); done)

@[simp] theorem State.servingLost_ordered (s : State) (n : Station) (hs : s.Ordered) : (State.servingLost s n).Ordered := by
  unfold State.servingLost
  try dsimp only
  (repeat' split) <;> first | with_reducible assumption | (simp (maxDischargeDepth := 30) [hs]; done) | (simp_all (maxDischargeDepth := 30); done)

@[simp] theorem State.reconcileOne_ordered (s : State) (code : Nat) (hs : s.Ordered) :
    (State.reconcileOne s code).Ordered := by
  unfold State.reconcileOne
  try dsimp only
  (repeat' split) <;> first | with_reducible assumption | (simp (maxDischargeDepth := 30) [hs]; done) | (simp_all (maxDischargeDepth := 30); done)

@[simp] theorem State.reconcile_ordered (s : State) (hs : s.Ordered) : (State.reconcile s).Ordered := by
  unfold State.reconcile
  have h := foldl_ordered State.reconcileOne (fun t c ht => State.reconcileOne_ordered t c ht)
    (s.items.records.map (·.code)) s hs
  exact foldl_ordered _ (fun t i ht => by split <;> simp [ht]) _ _ h

@[simp] theorem State.putSnapshot_ordered (s : State) (r : ItemRecord) (hs : s.Ordered) :
    (State.putSnapshot s r).Ordered := by
  unfold State.putSnapshot
  dsimp only
  split
  · exact State.putRecord_ordered _ _ (State.onItems_ordered _ _ hs rfl)
  · exact State.putRecord_ordered _ _ (State.onItems_ordered _ _ hs (startWatch_records _ _ _ _))

@[simp] theorem State.delivered_ordered (s : State) (code : Nat) (hs : s.Ordered) : (State.delivered s code).Ordered := by
  unfold State.delivered
  try dsimp only
  (repeat' split) <;> first | with_reducible assumption | (simp (maxDischargeDepth := 30) [hs]; done) | (simp_all (maxDischargeDepth := 30); done)

@[simp] theorem State.takeRecord_ordered (s : State) (r : ItemRecord) (hs : s.Ordered) : (State.takeRecord s r).Ordered := by
  unfold State.takeRecord
  try dsimp only
  (repeat' split) <;> first | with_reducible assumption | (simp (maxDischargeDepth := 30) [hs]; done) | (simp_all (maxDischargeDepth := 30); done)

@[simp] theorem State.completePull_ordered (s : State) (p : Pull) (a : Nat) (hs : s.Ordered) :
    (State.completePull s p a).Ordered := by
  unfold State.completePull
  extract_lets gone s1 s2 s3
  have h1 : s1.Ordered := State.onItems_ordered _ _ (State.setPull_ordered s none hs) rfl
  have h2 : s2.Ordered := foldl_ordered State.dropRecord (fun t c ht => State.dropRecord_ordered t c ht) gone s1 h1
  have h3 : s3.Ordered := by
    simp only [s3]
    split
    · exact State.raise_ordered _ _ h2
    · exact h2
  simp [h3]

@[simp] theorem State.chunkTaken_ordered (s : State) (n : Station) (c : Chunk) (hs : s.Ordered) :
    (State.chunkTaken s n c).Ordered := by
  unfold State.chunkTaken
  split
  · exact hs
  · next p _ =>
    split
    · exact hs
    · split
      · simp [hs]
      · split
        · exact hs
        · extract_lets s1 s2
          have h1 : s1.Ordered := State.setPull_ordered _ _ hs
          have h2 : s2.Ordered := foldl_ordered State.takeRecord (fun t r ht => State.takeRecord_ordered t r ht) c.records s1 h1
          split
          · exact h2
          · split <;> simp [h2]

@[simp] theorem State.leadHeard_ordered (s : State) (n : Station) (a : Nat) (hs : s.Ordered) :
    (State.leadHeard s n a).Ordered := by
  unfold State.leadHeard
  try dsimp only
  (repeat' split) <;> first | with_reducible assumption | (simp (maxDischargeDepth := 30) [hs]; done) | (simp_all (maxDischargeDepth := 30); done)

@[simp] theorem State.compareDone_ordered (s : State) (l : Nat) (hs : s.Ordered) : (State.compareDone s l).Ordered := by
  unfold State.compareDone
  try dsimp only
  (repeat' split) <;> first | with_reducible assumption | (simp (maxDischargeDepth := 30) [hs]; done) | (simp_all (maxDischargeDepth := 30); done)

@[simp] theorem State.handDone_ordered (s : State) (l : Nat) (hs : s.Ordered) : (State.handDone s l).Ordered := by
  unfold State.handDone
  try dsimp only
  (repeat' split) <;> first | with_reducible assumption | (simp (maxDischargeDepth := 30) [hs]; done) | (simp_all (maxDischargeDepth := 30); done)

@[simp] theorem State.afterItemTake_ordered (s : State) (hs : s.Ordered) : (State.afterItemTake s).Ordered := by
  unfold State.afterItemTake
  extract_lets waits s1 s2
  have h1 : s1.Ordered := State.onItems_ordered _ _ hs rfl
  have h2 : s2.Ordered := foldl_ordered _ (fun t w ht => State.compareDone_ordered t _ ht) _ s1 h1
  split <;> simp [h2]

@[simp] theorem State.doTakePrice_ordered (s : State) (hs : s.Ordered) : (State.doTakePrice s).Ordered := by
  unfold State.doTakePrice
  try dsimp only
  (repeat' split) <;> first | with_reducible assumption | (simp (maxDischargeDepth := 30) [hs]; done) | (simp_all (maxDischargeDepth := 30); done)

@[simp] theorem State.doTakeShown_ordered (s : State) (hs : s.Ordered) : (State.doTakeShown s).Ordered := by
  unfold State.doTakeShown
  try dsimp only
  (repeat' split) <;> first | with_reducible assumption | (simp (maxDischargeDepth := 30) [hs]; done) | (simp_all (maxDischargeDepth := 30); done)

@[simp] theorem State.doTakeHold_ordered (s : State) (hs : s.Ordered) : (State.doTakeHold s).Ordered := by
  unfold State.doTakeHold
  try dsimp only
  (repeat' split) <;> first | with_reducible assumption | (simp (maxDischargeDepth := 30) [hs]; done) | (simp_all (maxDischargeDepth := 30); done)

@[simp] theorem State.doTakeChunk_ordered (s : State) (hs : s.Ordered) : (State.doTakeChunk s).Ordered := by
  unfold State.doTakeChunk
  try dsimp only
  (repeat' split) <;> first | with_reducible assumption | (simp (maxDischargeDepth := 30) [hs]; done) | (simp_all (maxDischargeDepth := 30); done)

@[simp] theorem State.produceAutha_ordered (s : State) (origin : Station) (lane : Lane) (basket : Nat) (d : Decision) (hs : s.Ordered) :
    (State.produceAutha s origin lane basket d).Ordered := by
  unfold State.produceAutha
  try dsimp only
  (repeat' split) <;> first | with_reducible assumption | (simp (maxDischargeDepth := 30) [hs]; done) | (simp_all (maxDischargeDepth := 30); done)

@[simp] theorem State.routerRequest_ordered (s : State) (origin : Station) (lane : Lane) (basket amount : Nat) (hs : s.Ordered) :
    (State.routerRequest s origin lane basket amount).Ordered := by
  unfold State.routerRequest
  try dsimp only
  (repeat' split) <;> first | with_reducible assumption | (simp (maxDischargeDepth := 30) [hs]; done) | (simp_all (maxDischargeDepth := 30); done)

@[simp] theorem State.doTakeAuthq_ordered (s : State) (hs : s.Ordered) : (State.doTakeAuthq s).Ordered := by
  unfold State.doTakeAuthq
  try dsimp only
  (repeat' split) <;> first | with_reducible assumption | (simp (maxDischargeDepth := 30) [hs]; done) | (simp_all (maxDischargeDepth := 30); done)

@[simp] theorem State.doTakeAutha_ordered (s : State) (hs : s.Ordered) : (State.doTakeAutha s).Ordered := by
  unfold State.doTakeAutha
  try dsimp only
  (repeat' split) <;> first | with_reducible assumption | (simp (maxDischargeDepth := 30) [hs]; done) | (simp_all (maxDischargeDepth := 30); done)

@[simp] theorem State.officeAnswer_ordered (s : State) (tag : Nat) (d : OfficeDecision) (hs : s.Ordered) :
    (State.officeAnswer s tag d).Ordered := by
  unfold State.officeAnswer
  try dsimp only
  (repeat' split) <;> first | with_reducible assumption | (simp (maxDischargeDepth := 30) [hs]; done) | (simp_all (maxDischargeDepth := 30); done)

@[simp] theorem State.doAuthEntryExpiry_ordered (tag : Nat) (s : State) (hs : s.Ordered) :
    (State.doAuthEntryExpiry tag s).Ordered := by
  unfold State.doAuthEntryExpiry
  try dsimp only
  (repeat' split) <;> first | with_reducible assumption | (simp (maxDischargeDepth := 30) [hs]; done) | (simp_all (maxDischargeDepth := 30); done)

@[simp] theorem State.declineQueued_ordered (s : State) (hs : s.Ordered) : (State.declineQueued s).Ordered := by
  unfold State.declineQueued
  exact foldl_ordered _ (fun t a ht => by simp [ht]) _ _ hs

@[simp] theorem State.openAuth_ordered (s : State) (l : Lane) (amount : Nat) (route : Route) (authq : AuthqState) (hs : s.Ordered) :
    (State.openAuth s l amount route authq).Ordered := by
  unfold State.openAuth
  try dsimp only
  (repeat' split) <;> first | with_reducible assumption | (simp (maxDischargeDepth := 30) [hs]; done) | (simp_all (maxDischargeDepth := 30); done)

@[simp] theorem State.cardWork_ordered (r : Request) (amount : Nat) (s : State) (hs : s.Ordered) :
    (State.cardWork r amount s).Ordered := by
  unfold State.cardWork
  try dsimp only
  (repeat' split) <;> first | with_reducible assumption | (simp (maxDischargeDepth := 30) [hs]; done) | (simp_all (maxDischargeDepth := 30); done)

@[simp] theorem State.doCard_ordered (r : Request) (amount : Nat) (s : State) (hs : s.Ordered) :
    (State.doCard r amount s).Ordered := by
  unfold State.doCard
  try dsimp only
  (repeat' split) <;> first | with_reducible assumption | (simp (maxDischargeDepth := 30) [hs]; done) | (simp_all (maxDischargeDepth := 30); done)

@[simp] theorem State.authqOutcome_ordered (s : State) (l : Lane) (basket : Nat) (carried : Bool) (hs : s.Ordered) :
    (State.authqOutcome s l basket carried).Ordered := by
  unfold State.authqOutcome
  try dsimp only
  (repeat' split) <;> first | with_reducible assumption | (simp (maxDischargeDepth := 30) [hs]; done) | (simp_all (maxDischargeDepth := 30); done)

@[simp] theorem State.cancelAuth_ordered (r : Request) (s : State) (hs : s.Ordered) : (State.cancelAuth r s).Ordered := by
  unfold State.cancelAuth
  try dsimp only
  (repeat' split) <;> first | with_reducible assumption | (simp (maxDischargeDepth := 30) [hs]; done) | (simp_all (maxDischargeDepth := 30); done)

@[simp] theorem State.cancelBasket_ordered (r : Request) (s : State) (hs : s.Ordered) :
    (State.cancelBasket r s).Ordered := by
  unfold State.cancelBasket
  try dsimp only
  (repeat' split) <;> first | with_reducible assumption | (simp (maxDischargeDepth := 30) [hs]; done) | (simp_all (maxDischargeDepth := 30); done)

@[simp] theorem State.fromAp_ordered (s : State) (f : State → State) (hs : s.Ordered) (hw : ∀ t : State, t.Ordered → (f t).Ordered) :
    (State.fromAp s f).Ordered := by
  unfold State.fromAp
  try dsimp only
  (repeat' split) <;> first | with_reducible assumption | (simp (maxDischargeDepth := 30) [hs]; done) | (simp_all (maxDischargeDepth := 30); done)

@[simp] theorem State.setGuest_ordered (s : State) (i : Fin 64) (e : GuestEntry) (hs : s.Ordered) :
    (State.setGuest s i e).Ordered := by
  unfold State.setGuest
  try dsimp only
  (repeat' split) <;> first | with_reducible assumption | (simp (maxDischargeDepth := 30) [hs]; done) | (simp_all (maxDischargeDepth := 30); done)

@[simp] theorem State.countPoliced_ordered (s : State) (hs : s.Ordered) : (State.countPoliced s).Ordered := by
  unfold State.countPoliced
  try dsimp only
  (repeat' split) <;> first | with_reducible assumption | (simp (maxDischargeDepth := 30) [hs]; done) | (simp_all (maxDischargeDepth := 30); done)

@[simp] theorem State.removeFlows_ordered (s : State) (p : GuestFlow → Bool) (hs : s.Ordered) :
    (State.removeFlows s p).Ordered := by
  unfold State.removeFlows
  try dsimp only
  (repeat' split) <;> first | with_reducible assumption | (simp (maxDischargeDepth := 30) [hs]; done) | (simp_all (maxDischargeDepth := 30); done)

@[simp] theorem State.doFlowIdle_ordered (index : Nat) (s : State) (hs : s.Ordered) :
    (State.doFlowIdle index s).Ordered := by
  unfold State.doFlowIdle
  try dsimp only
  (repeat' split) <;> first | with_reducible assumption | (simp (maxDischargeDepth := 30) [hs]; done) | (simp_all (maxDischargeDepth := 30); done)

@[simp] theorem State.setFlow_ordered (s : State) (f : GuestFlow) (hs : s.Ordered) : (State.setFlow s f).Ordered := by
  unfold State.setFlow
  try dsimp only
  (repeat' split) <;> first | with_reducible assumption | (simp (maxDischargeDepth := 30) [hs]; done) | (simp_all (maxDischargeDepth := 30); done)

@[simp] theorem State.dropGuest_ordered (s : State) (hs : s.Ordered) : (State.dropGuest s).Ordered := by
  unfold State.dropGuest
  try dsimp only
  (repeat' split) <;> first | with_reducible assumption | (simp (maxDischargeDepth := 30) [hs]; done) | (simp_all (maxDischargeDepth := 30); done)

@[simp] theorem State.queueGuest_ordered (s : State) (f : GuestFlow) (data : List Byte) (hs : s.Ordered) :
    (State.queueGuest s f data).Ordered := by
  unfold State.queueGuest
  try dsimp only
  (repeat' split) <;> first | with_reducible assumption | (simp (maxDischargeDepth := 30) [hs]; done) | (simp_all (maxDischargeDepth := 30); done)

@[simp] theorem State.routeGuest_ordered (s : State) (slot : Fin 64) (p : GuestPacket) (hs : s.Ordered) :
    (State.routeGuest s slot p).Ordered := by
  unfold State.routeGuest
  try dsimp only
  (repeat' split) <;> first | with_reducible assumption | (simp (maxDischargeDepth := 30) [hs]; done) | (simp_all (maxDischargeDepth := 30); done)

@[simp] theorem State.endClient_ordered (s : State) (drop : Bool) (i : Fin 64) (hs : s.Ordered) :
    (State.endClient s drop i).Ordered := by
  unfold State.endClient
  try dsimp only
  (repeat' split) <;> first | with_reducible assumption | (simp (maxDischargeDepth := 30) [hs]; done) | (simp_all (maxDischargeDepth := 30); done)

@[simp] theorem State.endGuests_ordered (s : State) (drop : Bool) (hs : s.Ordered) : (State.endGuests s drop).Ordered := by
  unfold State.endGuests
  exact foldl_ordered _ (fun t a ht => by simp [ht]) _ _ hs

@[simp] theorem State.endIfClosed_ordered (s : State) (hs : s.Ordered) : (State.endIfClosed s).Ordered := by
  unfold State.endIfClosed
  try dsimp only
  (repeat' split) <;> first | with_reducible assumption | (simp (maxDischargeDepth := 30) [hs]; done) | (simp_all (maxDischargeDepth := 30); done)

@[simp] theorem State.doSessionEnd_ordered (i : Fin 64) (s : State) (hs : s.Ordered) : (State.doSessionEnd i s).Ordered := by
  unfold State.doSessionEnd
  try dsimp only
  (repeat' split) <;> first | with_reducible assumption | (simp (maxDischargeDepth := 30) [hs]; done) | (simp_all (maxDischargeDepth := 30); done)

@[simp] theorem State.disassocWork_ordered (address : Nat) (s : State) (hs : s.Ordered) :
    (State.disassocWork address s).Ordered := by
  unfold State.disassocWork
  try dsimp only
  (repeat' split) <;> first | with_reducible assumption | (simp (maxDischargeDepth := 30) [hs]; done) | (simp_all (maxDischargeDepth := 30); done)

@[simp] theorem State.doDisassoc_ordered (address : Nat) (s : State) (hs : s.Ordered) :
    (State.doDisassoc address s).Ordered := by
  unfold State.doDisassoc
  try dsimp only
  (repeat' split) <;> first | with_reducible assumption | (simp (maxDischargeDepth := 30) [hs]; done) | (simp_all (maxDischargeDepth := 30); done)

@[simp] theorem State.doApReset_ordered (s : State) (hs : s.Ordered) : (State.doApReset s).Ordered := by
  unfold State.doApReset
  try dsimp only
  (repeat' split) <;> first | with_reducible assumption | (simp (maxDischargeDepth := 30) [hs]; done) | (simp_all (maxDischargeDepth := 30); done)

@[simp] theorem State.doStatus_ordered (s : State) (hs : s.Ordered) : (State.doStatus s).Ordered := by
  unfold State.doStatus
  try dsimp only
  (repeat' split) <;> first | with_reducible assumption | (simp (maxDischargeDepth := 30) [hs]; done) | (simp_all (maxDischargeDepth := 30); done)

@[simp] theorem State.doGuestBad_ordered (s : State) (hs : s.Ordered) : (State.doGuestBad s).Ordered := by
  unfold State.doGuestBad
  try dsimp only
  (repeat' split) <;> first | with_reducible assumption | (simp (maxDischargeDepth := 30) [hs]; done) | (simp_all (maxDischargeDepth := 30); done)

@[simp] theorem State.doApLost_ordered (s : State) (hs : s.Ordered) : (State.doApLost s).Ordered := by
  unfold State.doApLost
  try dsimp only
  (repeat' split) <;> first | with_reducible assumption | (simp (maxDischargeDepth := 30) [hs]; done) | (simp_all (maxDischargeDepth := 30); done)

@[simp] theorem State.refuse_ordered (s : State) (address : Nat) (reason : RefuseReason) (hs : s.Ordered) :
    (State.refuse s address reason).Ordered := by
  unfold State.refuse
  try dsimp only
  (repeat' split) <;> first | with_reducible assumption | (simp (maxDischargeDepth := 30) [hs]; done) | (simp_all (maxDischargeDepth := 30); done)

@[simp] theorem State.assocWork_ordered (address : Nat) (s : State) (hs : s.Ordered) :
    (State.assocWork address s).Ordered := by
  unfold State.assocWork
  try dsimp only
  (repeat' split) <;> first | with_reducible assumption | (simp (maxDischargeDepth := 30) [hs]; done) | (simp_all (maxDischargeDepth := 30); done)

@[simp] theorem State.doAssoc_ordered (address : Nat) (s : State) (hs : s.Ordered) : (State.doAssoc address s).Ordered := by
  unfold State.doAssoc
  try dsimp only
  (repeat' split) <;> first | with_reducible assumption | (simp (maxDischargeDepth := 30) [hs]; done) | (simp_all (maxDischargeDepth := 30); done)

@[simp] theorem State.interceptHit_ordered (s : State) (i : Fin 64) (hits : Vector Bool 8) (hs : s.Ordered) :
    (State.interceptHit s i hits).Ordered := by
  unfold State.interceptHit
  try dsimp only
  (repeat' split) <;> first | with_reducible assumption | (simp (maxDischargeDepth := 30) [hs]; done) | (simp_all (maxDischargeDepth := 30); done)

@[simp] theorem State.chargeOut_ordered (s : State) (i : Fin 64) (p : GuestPacket) (hs : s.Ordered) :
    (State.chargeOut s i p).Ordered := by
  unfold State.chargeOut
  try dsimp only
  (repeat' split) <;> first | with_reducible assumption | (simp (maxDischargeDepth := 30) [hs]; done) | (simp_all (maxDischargeDepth := 30); done)

@[simp] theorem State.rateTest_ordered (s : State) (i : Fin 64) (p : GuestPacket) (hs : s.Ordered) :
    (State.rateTest s i p).Ordered := by
  unfold State.rateTest
  try dsimp only
  (repeat' split) <;> first | with_reducible assumption | (simp (maxDischargeDepth := 30) [hs]; done) | (simp_all (maxDischargeDepth := 30); done)

@[simp] theorem State.police_ordered (s : State) (i : Fin 64) (p : GuestPacket) (hs : s.Ordered) :
    (State.police s i p).Ordered := by
  unfold State.police
  try dsimp only
  (repeat' split) <;> first | with_reducible assumption | (simp (maxDischargeDepth := 30) [hs]; done) | (simp_all (maxDischargeDepth := 30); done)

@[simp] theorem State.packetOutWork_ordered (p : GuestPacket) (s : State) (hs : s.Ordered) :
    (State.packetOutWork p s).Ordered := by
  unfold State.packetOutWork
  try dsimp only
  (repeat' split) <;> first | with_reducible assumption | (simp (maxDischargeDepth := 30) [hs]; done) | (simp_all (maxDischargeDepth := 30); done)

@[simp] theorem State.doPacketOut_ordered (p : GuestPacket) (s : State) (hs : s.Ordered) :
    (State.doPacketOut p s).Ordered := by
  unfold State.doPacketOut
  try dsimp only
  (repeat' split) <;> first | with_reducible assumption | (simp (maxDischargeDepth := 30) [hs]; done) | (simp_all (maxDischargeDepth := 30); done)

@[simp] theorem State.doRefill_ordered (s : State) (hs : s.Ordered) : (State.doRefill s).Ordered := by
  unfold State.doRefill
  try dsimp only
  (repeat' split) <;> first | with_reducible assumption | (simp (maxDischargeDepth := 30) [hs]; done) | (simp_all (maxDischargeDepth := 30); done)

@[simp] theorem State.chargeIn_ordered (s : State) (f : GuestFlow) (data : List Byte) (hs : s.Ordered) :
    (State.chargeIn s f data).Ordered := by
  unfold State.chargeIn
  try dsimp only
  (repeat' split) <;> first | with_reducible assumption | (simp (maxDischargeDepth := 30) [hs]; done) | (simp_all (maxDischargeDepth := 30); done)

@[simp] theorem State.packetIn_ordered (s : State) (port : Nat) (data : List Byte) (hs : s.Ordered) :
    (State.packetIn s port data).Ordered := by
  unfold State.packetIn
  try dsimp only
  (repeat' split) <;> first | with_reducible assumption | (simp (maxDischargeDepth := 30) [hs]; done) | (simp_all (maxDischargeDepth := 30); done)

@[simp] theorem State.rollGuests_ordered (s : State) (hs : s.Ordered) : (State.rollGuests s).Ordered := by
  unfold State.rollGuests
  try dsimp only
  (repeat' split) <;> first | with_reducible assumption | (simp (maxDischargeDepth := 30) [hs]; done) | (simp_all (maxDischargeDepth := 30); done)

@[simp] theorem State.shutGuests_ordered (s : State) (hs : s.Ordered) : (State.shutGuests s).Ordered := by
  unfold State.shutGuests
  try dsimp only
  (repeat' split) <;> first | with_reducible assumption | (simp (maxDischargeDepth := 30) [hs]; done) | (simp_all (maxDischargeDepth := 30); done)

@[simp] theorem State.produceNight_ordered (s : State) (m : NightMsg) (hs : s.Ordered) :
    (State.produceNight s m).Ordered := by
  unfold State.produceNight
  try dsimp only
  (repeat' split) <;> first | with_reducible assumption | (simp (maxDischargeDepth := 30) [hs]; done) | (simp_all (maxDischargeDepth := 30); done)

@[simp] theorem State.produceJournal_ordered (s : State) (n : Station) (p : Payload) (hs : s.Ordered) :
    (State.produceJournal s n p).Ordered := by
  unfold State.produceJournal
  try dsimp only
  (repeat' split) <;> first | with_reducible assumption | (simp (maxDischargeDepth := 30) [hs]; done) | (simp_all (maxDischargeDepth := 30); done)

@[simp] theorem State.releaseHere_ordered (s : State) (n : Station) (seq : Nat) (hs : s.Ordered) :
    (State.releaseHere s n seq).Ordered := by
  unfold State.releaseHere
  try dsimp only
  (repeat' split) <;> first | with_reducible assumption | (simp (maxDischargeDepth := 30) [hs]; done) | (simp_all (maxDischargeDepth := 30); done)

@[simp] theorem State.releaseThere_ordered (s : State) (b : Batch) (hs : s.Ordered) :
    (State.releaseThere s b).Ordered := by
  unfold State.releaseThere
  try dsimp only
  (repeat' split) <;> first | with_reducible assumption | (simp (maxDischargeDepth := 30) [hs]; done) | (simp_all (maxDischargeDepth := 30); done)

@[simp] theorem State.release_ordered (s : State) (b : Batch) (hs : s.Ordered) :
    (State.release s b).Ordered := by
  unfold State.release
  try dsimp only
  (repeat' split) <;> first | with_reducible assumption | (simp (maxDischargeDepth := 30) [hs]; done) | (simp_all (maxDischargeDepth := 30); done)

@[simp] theorem State.jrelOutcome_ordered (s : State) (dest : Option Station) (seq : Nat) (carried : Bool) (hs : s.Ordered) :
    (State.jrelOutcome s dest seq carried).Ordered := by
  unfold State.jrelOutcome
  try dsimp only
  (repeat' split) <;> first | with_reducible assumption | (simp (maxDischargeDepth := 30) [hs]; done) | (simp_all (maxDischargeDepth := 30); done)

@[simp] theorem State.giveUpBatch_ordered (s : State) (hs : s.Ordered) : (State.giveUpBatch s).Ordered := by
  unfold State.giveUpBatch
  try dsimp only
  (repeat' split) <;> first | with_reducible assumption | (simp (maxDischargeDepth := 30) [hs]; done) | (simp_all (maxDischargeDepth := 30); done)

@[simp] theorem State.nightClose_ordered (s : State) (r : NightResult) (hs : s.Ordered) :
    (State.nightClose s r).Ordered := by
  unfold State.nightClose
  try dsimp only
  (repeat' split) <;> first | with_reducible assumption | (simp (maxDischargeDepth := 30) [hs]; done) | (simp_all (maxDischargeDepth := 30); done)

@[simp] theorem State.joinNight_ordered (x0 : List NightItem) (s : State) (hs : s.Ordered) :
    (State.joinNight x0 s).Ordered := by
  induction x0 generalizing s with
  | nil => exact hs
  | cons x rest ih =>
    unfold State.joinNight
    split
    · exact ih _ (by simp [hs])
    · simp [hs]

@[simp] theorem State.zeroCounts_ordered (s : State) (hs : s.Ordered) : (State.zeroCounts s).Ordered := by
  unfold State.zeroCounts
  try dsimp only
  (repeat' split) <;> first | with_reducible assumption | (simp (maxDischargeDepth := 30) [hs]; done) | (simp_all (maxDischargeDepth := 30); done)

@[simp] theorem State.reportJoined_ordered (s : State) (r : Report) (rest : List Report) (hs : s.Ordered) :
    (State.reportJoined s r rest).Ordered := by
  unfold State.reportJoined
  try dsimp only
  (repeat' split) <;> first | with_reducible assumption | (simp (maxDischargeDepth := 30) [hs]; done) | (simp_all (maxDischargeDepth := 30); done)

@[simp] theorem State.joinReports_ordered (x0 : List Report) (s : State) (hs : s.Ordered) :
    (State.joinReports x0 s).Ordered := by
  induction x0 generalizing s with
  | nil => exact hs
  | cons x rest ih =>
    unfold State.joinReports
    split
    · exact ih _ (by simp [hs])
    · exact hs

@[simp] theorem State.joinAll_ordered (s : State) (hs : s.Ordered) : (State.joinAll s).Ordered := by
  unfold State.joinAll
  try dsimp only
  (repeat' split) <;> first | with_reducible assumption | (simp (maxDischargeDepth := 30) [hs]; done) | (simp_all (maxDischargeDepth := 30); done)

@[simp] theorem State.pump_ordered (s : State) (hs : s.Ordered) : (State.pump s).Ordered := by
  unfold State.pump
  try dsimp only
  (repeat' split) <;> first | with_reducible assumption | (simp (maxDischargeDepth := 30) [hs]; done) | (simp_all (maxDischargeDepth := 30); done)

@[simp] theorem State.enterReport_ordered (s : State) (hs : s.Ordered) : (State.enterReport s).Ordered := by
  unfold State.enterReport
  try dsimp only
  (repeat' split) <;> first | with_reducible assumption | (simp (maxDischargeDepth := 30) [hs]; done) | (simp_all (maxDischargeDepth := 30); done)

@[simp] theorem State.enterTime_ordered (s : State) (hs : s.Ordered) : (State.enterTime s).Ordered := by
  unfold State.enterTime
  try dsimp only
  (repeat' split) <;> first | with_reducible assumption | (simp (maxDischargeDepth := 30) [hs]; done) | (simp_all (maxDischargeDepth := 30); done)

@[simp] theorem State.checkDone_ordered (s : State) (hs : s.Ordered) : (State.checkDone s).Ordered := by
  unfold State.checkDone
  try dsimp only
  (repeat' split) <;> first | with_reducible assumption | (simp (maxDischargeDepth := 30) [hs]; done) | (simp_all (maxDischargeDepth := 30); done)

@[simp] theorem State.checkPrices_ordered (s : State) (hs : s.Ordered) : (State.checkPrices s).Ordered := by
  unfold State.checkPrices
  try dsimp only
  (repeat' split) <;> first | with_reducible assumption | (simp (maxDischargeDepth := 30) [hs]; done) | (simp_all (maxDischargeDepth := 30); done)

@[simp] theorem State.enterPrices_ordered (s : State) (hs : s.Ordered) : (State.enterPrices s).Ordered := by
  unfold State.enterPrices
  try dsimp only
  (repeat' split) <;> first | with_reducible assumption | (simp (maxDischargeDepth := 30) [hs]; done) | (simp_all (maxDischargeDepth := 30); done)

@[simp] theorem State.settlePrices_ordered (s : State) (complete : Bool) (hs : s.Ordered) :
    (State.settlePrices s complete).Ordered := by
  unfold State.settlePrices
  try dsimp only
  (repeat' split) <;> first | with_reducible assumption | (simp (maxDischargeDepth := 30) [hs]; done) | (simp_all (maxDischargeDepth := 30); done)

@[simp] theorem State.cutRest_ordered (s : State) (ns : List Station) (hs : s.Ordered) : (State.cutRest s ns).Ordered := by
  unfold State.cutRest
  exact foldl_ordered _ (fun t a ht => by simp [ht]) _ _ hs

@[simp] theorem State.drainEnd_ordered (s : State) (hs : s.Ordered) : (State.drainEnd s).Ordered := by
  unfold State.drainEnd
  try dsimp only
  (repeat' split) <;> first | with_reducible assumption | (simp (maxDischargeDepth := 30) [hs]; done) | (simp_all (maxDischargeDepth := 30); done)

@[simp] theorem State.dayDrainEnd_ordered (s : State) (hs : s.Ordered) : (State.dayDrainEnd s).Ordered := by
  unfold State.dayDrainEnd
  try dsimp only
  (repeat' split) <;> first | with_reducible assumption | (simp (maxDischargeDepth := 30) [hs]; done) | (simp_all (maxDischargeDepth := 30); done)

@[simp] theorem State.newBatch_ordered (s : State) (n : Station) (phase : BatchPhase) (collected : List Collected) (hs : s.Ordered) :
    (State.newBatch s n phase collected).Ordered := by
  unfold State.newBatch
  try dsimp only
  (repeat' split) <;> first | with_reducible assumption | (simp (maxDischargeDepth := 30) [hs]; done) | (simp_all (maxDischargeDepth := 30); done)

@[simp] theorem State.putBatch_ordered (s : State) (n : Station) (cs : List Collected) (hs : s.Ordered) :
    (State.putBatch s n cs).Ordered := by
  unfold State.putBatch
  try dsimp only
  (repeat' split) <;> first | with_reducible assumption | (simp (maxDischargeDepth := 30) [hs]; done) | (simp_all (maxDischargeDepth := 30); done)

@[simp] theorem State.beginBatch_ordered (s : State) (n : Station) (hs : s.Ordered) (t : State) (h : State.beginBatch s n = some t) :
    t.Ordered := by
  unfold State.beginBatch at h
  split at h
  · cases h; simp [hs]
  · split at h
    · dsimp only at h
      split at h
      · cases h
      · cases h; simp (maxDischargeDepth := 30) [hs]
    · cases h; simp [hs]

@[simp] theorem State.walkOn_ordered (x0 : List Station) (s : State) (hs : s.Ordered) : (State.walkOn x0 s).Ordered := by
  induction x0 generalizing s with
  | nil => exact hs
  | cons n rest ih =>
    unfold State.walkOn
    split
    · split
      · next h => exact State.beginBatch_ordered _ _ (by simp [hs]) _ h
      · exact ih _ (by simp (maxDischargeDepth := 30) [hs])
    · exact ih _ (by split <;> simp [hs])

@[simp] theorem State.walkDone_ordered (s : State) (hs : s.Ordered) : (State.walkDone s).Ordered := by
  unfold State.walkDone
  try dsimp only
  (repeat' split) <;> first | with_reducible assumption | (simp (maxDischargeDepth := 30) [hs]; done) | (simp_all (maxDischargeDepth := 30); done)

@[simp] theorem State.finishStation_ordered (s : State) (n : Station) (o : DrainOutcome) (hs : s.Ordered) :
    (State.finishStation s n o).Ordered := by
  unfold State.finishStation
  try dsimp only
  (repeat' split) <;> first | with_reducible assumption | (simp (maxDischargeDepth := 30) [hs]; done) | (simp_all (maxDischargeDepth := 30); done)

@[simp] theorem State.nextBatch_ordered (s : State) (n : Station) (lost : Bool) (hs : s.Ordered) :
    (State.nextBatch s n lost).Ordered := by
  unfold State.nextBatch
  repeat (first | (split; · simp [hs]))
  split
  · next h => exact State.beginBatch_ordered _ _ hs _ h
  · simp [hs]

@[simp] theorem State.failedAttempt_ordered (s : State) (b : Batch) (hs : s.Ordered) :
    (State.failedAttempt s b).Ordered := by
  unfold State.failedAttempt
  try dsimp only
  (repeat' split) <;> first | with_reducible assumption | (simp (maxDischargeDepth := 30) [hs]; done) | (simp_all (maxDischargeDepth := 30); done)

@[simp] theorem State.releaseBatch_ordered (s : State) (b : Batch) (hs : s.Ordered) : (State.releaseBatch s b).Ordered := by
  unfold State.releaseBatch
  try dsimp only
  (repeat' split) <;> first | with_reducible assumption | (simp (maxDischargeDepth := 30) [hs]; done) | (simp_all (maxDischargeDepth := 30); done)

@[simp] theorem State.collectionEnd_ordered (s : State) (b : Batch) (hs : s.Ordered) :
    (State.collectionEnd s b).Ordered := by
  unfold State.collectionEnd
  try dsimp only
  (repeat' split) <;> first | with_reducible assumption | (simp (maxDischargeDepth := 30) [hs]; done) | (simp_all (maxDischargeDepth := 30); done)

@[simp] theorem State.firstShown_ordered (s : State) (b : Batch) (g : Jseg) (hs : s.Ordered) :
    (State.firstShown s b g).Ordered := by
  unfold State.firstShown
  split <;> simp [hs]

@[simp] theorem State.collect_ordered (s : State) (n : Station) (g : Jseg) (hs : s.Ordered) :
    (State.collect s n g).Ordered := by
  unfold State.collect
  try dsimp only
  (repeat' split) <;> first | with_reducible assumption | (simp (maxDischargeDepth := 30) [hs]; done) | (simp_all (maxDischargeDepth := 30); done)

@[simp] theorem State.jpullOutcome_ordered (s : State) (dest : Option Station) (carried : Bool) (hs : s.Ordered) :
    (State.jpullOutcome s dest carried).Ordered := by
  unfold State.jpullOutcome
  try dsimp only
  (repeat' split) <;> first | with_reducible assumption | (simp (maxDischargeDepth := 30) [hs]; done) | (simp_all (maxDischargeDepth := 30); done)

@[simp] theorem State.targetAbsent_ordered (s : State) (n : Station) (hs : s.Ordered) :
    (State.targetAbsent s n).Ordered := by
  unfold State.targetAbsent
  try dsimp only
  (repeat' split) <;> first | with_reducible assumption | (simp (maxDischargeDepth := 30) [hs]; done) | (simp_all (maxDischargeDepth := 30); done)

@[simp] theorem State.batchResume_ordered (s : State) (hs : s.Ordered) : (State.batchResume s).Ordered := by
  unfold State.batchResume
  try dsimp only
  (repeat' split) <;> first | with_reducible assumption | (simp (maxDischargeDepth := 30) [hs]; done) | (simp_all (maxDischargeDepth := 30); done)

@[simp] theorem State.batchLinkLost_ordered (s : State) (hs : s.Ordered) : (State.batchLinkLost s).Ordered := by
  unfold State.batchLinkLost
  try dsimp only
  (repeat' split) <;> first | with_reducible assumption | (simp (maxDischargeDepth := 30) [hs]; done) | (simp_all (maxDischargeDepth := 30); done)

@[simp] theorem State.connectEnd_ordered (s : State) (hs : s.Ordered) : (State.connectEnd s).Ordered := by
  unfold State.connectEnd
  try dsimp only
  (repeat' split) <;> first | with_reducible assumption | (simp (maxDischargeDepth := 30) [hs]; done) | (simp_all (maxDischargeDepth := 30); done)

@[simp] theorem State.segmentExpiry_ordered (s : State) (hs : s.Ordered) : (State.segmentExpiry s).Ordered := by
  unfold State.segmentExpiry
  try dsimp only
  (repeat' split) <;> first | with_reducible assumption | (simp (maxDischargeDepth := 30) [hs]; done) | (simp_all (maxDischargeDepth := 30); done)

@[simp] theorem State.takenExpiry_ordered (s : State) (hs : s.Ordered) : (State.takenExpiry s).Ordered := by
  unfold State.takenExpiry
  try dsimp only
  (repeat' split) <;> first | with_reducible assumption | (simp (maxDischargeDepth := 30) [hs]; done) | (simp_all (maxDischargeDepth := 30); done)

@[simp] theorem State.jtaken_ordered (s : State) (station seq : Nat) (hs : s.Ordered) :
    (State.jtaken s station seq).Ordered := by
  unfold State.jtaken
  try dsimp only
  (repeat' split) <;> first | with_reducible assumption | (simp (maxDischargeDepth := 30) [hs]; done) | (simp_all (maxDischargeDepth := 30); done)

@[simp] theorem State.beginDayDrain_ordered (s : State) (hs : s.Ordered) : (State.beginDayDrain s).Ordered := by
  unfold State.beginDayDrain
  try dsimp only
  (repeat' split) <;> first | with_reducible assumption | (simp (maxDischargeDepth := 30) [hs]; done) | (simp_all (maxDischargeDepth := 30); done)

@[simp] theorem State.testDayDrainAt_ordered (s : State) (second : Nat) (hs : s.Ordered) : (State.testDayDrainAt s second).Ordered := by
  unfold State.testDayDrainAt
  try dsimp only
  (repeat' split) <;> first | with_reducible assumption | (simp (maxDischargeDepth := 30) [hs]; done) | (simp_all (maxDischargeDepth := 30); done)

@[simp] theorem State.testDayDrain_ordered (s : State) (hs : s.Ordered) : (State.testDayDrain s).Ordered := by
  unfold State.testDayDrain
  try dsimp only
  (repeat' split) <;> first | with_reducible assumption | (simp (maxDischargeDepth := 30) [hs]; done) | (simp_all (maxDischargeDepth := 30); done)

@[simp] theorem State.settle_ordered (s : State) (hs : s.Ordered) : (State.settle s).Ordered := by
  unfold State.settle
  try dsimp only
  (repeat' split) <;> first | with_reducible assumption | (simp (maxDischargeDepth := 30) [hs]; done) | (simp_all (maxDischargeDepth := 30); done)

@[simp] theorem State.doClose_ordered (r : Request) (s : State) (hs : s.Ordered) : (State.doClose r s).Ordered := by
  unfold State.doClose
  try dsimp only
  (repeat' split) <;> first | with_reducible assumption | (simp (maxDischargeDepth := 30) [hs]; done) | (simp_all (maxDischargeDepth := 30); done)

@[simp] theorem State.doCancel_ordered (r : Request) (s : State) (hs : s.Ordered) : (State.doCancel r s).Ordered := by
  unfold State.doCancel
  try dsimp only
  (repeat' split) <;> first | with_reducible assumption | (simp (maxDischargeDepth := 30) [hs]; done) | (simp_all (maxDischargeDepth := 30); done)

@[simp] theorem State.doLaneReset_ordered (l : Lane) (s : State) (hs : s.Ordered) : (State.doLaneReset l s).Ordered := by
  unfold State.doLaneReset
  try dsimp only
  (repeat' split) <;> first | with_reducible assumption | (simp (maxDischargeDepth := 30) [hs]; done) | (simp_all (maxDischargeDepth := 30); done)

@[simp] theorem State.claim_ordered (s : State) (hs : s.Ordered) : (State.claim s).Ordered := by
  unfold State.claim
  try dsimp only
  (repeat' split) <;> first | with_reducible assumption | (simp (maxDischargeDepth := 30) [hs]; done) | (simp_all (maxDischargeDepth := 30); done)

@[simp] theorem State.takeover_ordered (s : State) (hs : s.Ordered) : (State.takeover s).Ordered := by
  unfold State.takeover
  try dsimp only
  (repeat' split) <;> first | with_reducible assumption | (simp (maxDischargeDepth := 30) [hs]; done) | (simp_all (maxDischargeDepth := 30); done)

@[simp] theorem State.follow_ordered (s : State) (exchange : Option Station) (hs : s.Ordered) :
    (State.follow s exchange).Ordered := by
  unfold State.follow
  try dsimp only
  (repeat' split) <;> first | with_reducible assumption | (simp (maxDischargeDepth := 30) [hs]; done) | (simp_all (maxDischargeDepth := 30); done)

@[simp] theorem State.losesExchange_ordered (s : State) (hs : s.Ordered) : (State.losesExchange s).Ordered := by
  unfold State.losesExchange
  try dsimp only
  (repeat' split) <;> first | with_reducible assumption | (simp (maxDischargeDepth := 30) [hs]; done) | (simp_all (maxDischargeDepth := 30); done)

@[simp] theorem State.yield_ordered (s : State) (winner : Option Station) (hs : s.Ordered) : (State.yield s winner).Ordered := by
  unfold State.yield
  try dsimp only
  (repeat' split) <;> first | with_reducible assumption | (simp (maxDischargeDepth := 30) [hs]; done) | (simp_all (maxDischargeDepth := 30); done)

@[simp] theorem State.meetRival_ordered (s : State) (n : Station) (hs : s.Ordered) : (State.meetRival s n).Ordered := by
  unfold State.meetRival
  try dsimp only
  (repeat' split) <;> first | with_reducible assumption | (simp (maxDischargeDepth := 30) [hs]; done) | (simp_all (maxDischargeDepth := 30); done)

@[simp] theorem State.nightIdle_ordered (s : State) (hs : s.Ordered) : (State.nightIdle s).Ordered := by
  unfold State.nightIdle
  try dsimp only
  (repeat' split) <;> first | with_reducible assumption | (simp (maxDischargeDepth := 30) [hs]; done) | (simp_all (maxDischargeDepth := 30); done)

@[simp] theorem State.windowBegins_ordered (s : State) (exchange : Option Station) (d1 : Bool) (hs : s.Ordered) :
    (State.windowBegins s exchange d1).Ordered := by
  unfold State.windowBegins
  try dsimp only
  (repeat' split) <;> first | with_reducible assumption | (simp (maxDischargeDepth := 30) [hs]; done) | (simp_all (maxDischargeDepth := 30); done)

@[simp] theorem State.reachOpen_ordered (s : State) (hs : s.Ordered) : (State.reachOpen s).Ordered := by
  unfold State.reachOpen
  try dsimp only
  (repeat' split) <;> first | with_reducible assumption | (simp (maxDischargeDepth := 30) [hs]; done) | (simp_all (maxDischargeDepth := 30); done)

@[simp] theorem State.openLate_ordered (s : State) (hs : s.Ordered) : (State.openLate s).Ordered := by
  unfold State.openLate
  try dsimp only
  (repeat' split) <;> first | with_reducible assumption | (simp (maxDischargeDepth := 30) [hs]; done) | (simp_all (maxDischargeDepth := 30); done)

@[simp] theorem State.openHeld_ordered (s : State) (n : Station) (hs : s.Ordered) : (State.openHeld s n).Ordered := by
  unfold State.openHeld
  try dsimp only
  (repeat' split) <;> first | with_reducible assumption | (simp (maxDischargeDepth := 30) [hs]; done) | (simp_all (maxDischargeDepth := 30); done)

@[simp] theorem State.claimExpiry_ordered (s : State) (hs : s.Ordered) : (State.claimExpiry s).Ordered := by
  unfold State.claimExpiry
  try dsimp only
  (repeat' split) <;> first | with_reducible assumption | (simp (maxDischargeDepth := 30) [hs]; done) | (simp_all (maxDischargeDepth := 30); done)

@[simp] theorem State.reachD1_ordered (s : State) (hs : s.Ordered) : (State.reachD1 s).Ordered := by
  unfold State.reachD1
  try dsimp only
  (repeat' split) <;> first | with_reducible assumption | (simp (maxDischargeDepth := 30) [hs]; done) | (simp_all (maxDischargeDepth := 30); done)

@[simp] theorem State.failReport_ordered (s : State) (hs : s.Ordered) : (State.failReport s).Ordered := by
  unfold State.failReport
  try dsimp only
  (repeat' split) <;> first | with_reducible assumption | (simp (maxDischargeDepth := 30) [hs]; done) | (simp_all (maxDischargeDepth := 30); done)

@[simp] theorem State.reachD2_ordered (s : State) (hs : s.Ordered) : (State.reachD2 s).Ordered := by
  unfold State.reachD2
  try dsimp only
  (repeat' split) <;> first | with_reducible assumption | (simp (maxDischargeDepth := 30) [hs]; done) | (simp_all (maxDischargeDepth := 30); done)

@[simp] theorem State.popNight_ordered (s : State) (hs : s.Ordered) : (State.popNight s).Ordered := by
  unfold State.popNight
  try dsimp only
  (repeat' split) <;> first | with_reducible assumption | (simp (maxDischargeDepth := 30) [hs]; done) | (simp_all (maxDischargeDepth := 30); done)

@[simp] theorem State.claimTaken_ordered (s : State) (n : Station) (hs : s.Ordered) : (State.claimTaken s n).Ordered := by
  unfold State.claimTaken
  try dsimp only
  (repeat' split) <;> first | with_reducible assumption | (simp (maxDischargeDepth := 30) [hs]; done) | (simp_all (maxDischargeDepth := 30); done)

@[simp] theorem State.heldTaken_ordered (s : State) (n : Station) (hs : s.Ordered) : (State.heldTaken s n).Ordered := by
  unfold State.heldTaken
  try dsimp only
  (repeat' split) <;> first | with_reducible assumption | (simp (maxDischargeDepth := 30) [hs]; done) | (simp_all (maxDischargeDepth := 30); done)

@[simp] theorem State.claimerFollows_ordered (s : State) (n : Station) (hs : s.Ordered) :
    (State.claimerFollows s n).Ordered := by
  unfold State.claimerFollows
  try dsimp only
  (repeat' split) <;> first | with_reducible assumption | (simp (maxDischargeDepth := 30) [hs]; done) | (simp_all (maxDischargeDepth := 30); done)

@[simp] theorem State.doneTaken_ordered (s : State) (n : Station) (l : Nat) (hs : s.Ordered) :
    (State.doneTaken s n l).Ordered := by
  unfold State.doneTaken
  try dsimp only
  (repeat' split) <;> first | with_reducible assumption | (simp (maxDischargeDepth := 30) [hs]; done) | (simp_all (maxDischargeDepth := 30); done)

@[simp] theorem State.closedTaken_ordered (s : State) (r : NightResult) (hs : s.Ordered) :
    (State.closedTaken s r).Ordered := by
  unfold State.closedTaken
  try dsimp only
  (repeat' split) <;> first | with_reducible assumption | (simp (maxDischargeDepth := 30) [hs]; done) | (simp_all (maxDischargeDepth := 30); done)

@[simp] theorem State.closedFrom_ordered (s : State) (n : Station) (r : NightResult) (hs : s.Ordered) :
    (State.closedFrom s n r).Ordered := by
  unfold State.closedFrom
  try dsimp only
  (repeat' split) <;> first | with_reducible assumption | (simp (maxDischargeDepth := 30) [hs]; done) | (simp_all (maxDischargeDepth := 30); done)

@[simp] theorem State.exchangeHeard_ordered (s : State) (n : Station) (hs : s.Ordered) :
    (State.exchangeHeard s n).Ordered := by
  unfold State.exchangeHeard
  try dsimp only
  (repeat' split) <;> first | with_reducible assumption | (simp (maxDischargeDepth := 30) [hs]; done) | (simp_all (maxDischargeDepth := 30); done)

@[simp] theorem State.nightLinkUp_ordered (s : State) (hs : s.Ordered) : (State.nightLinkUp s).Ordered := by
  unfold State.nightLinkUp
  try dsimp only
  (repeat' split) <;> first | with_reducible assumption | (simp (maxDischargeDepth := 30) [hs]; done) | (simp_all (maxDischargeDepth := 30); done)

@[simp] theorem State.nightAbsent_ordered (s : State) (n : Station) (hs : s.Ordered) : (State.nightAbsent s n).Ordered := by
  unfold State.nightAbsent
  try dsimp only
  (repeat' split) <;> first | with_reducible assumption | (simp (maxDischargeDepth := 30) [hs]; done) | (simp_all (maxDischargeDepth := 30); done)

@[simp] theorem State.nightSilenced_ordered (s : State) (hs : s.Ordered) : (State.nightSilenced s).Ordered := by
  unfold State.nightSilenced
  try dsimp only
  (repeat' split) <;> first | with_reducible assumption | (simp (maxDischargeDepth := 30) [hs]; done) | (simp_all (maxDischargeDepth := 30); done)

@[simp] theorem State.hoursChanged_ordered (s : State) (hs : s.Ordered) : (State.hoursChanged s).Ordered := by
  unfold State.hoursChanged
  try dsimp only
  (repeat' split) <;> first | with_reducible assumption | (simp (maxDischargeDepth := 30) [hs]; done) | (simp_all (maxDischargeDepth := 30); done)

@[simp] theorem State.hoursLeft_ordered (s : State) (hs : s.Ordered) :
    (State.hoursLeft s).Ordered := by
  unfold State.hoursLeft
  try dsimp only
  (repeat' split) <;> first | with_reducible assumption | (simp (maxDischargeDepth := 30) [hs]; done) | (simp_all (maxDischargeDepth := 30); done)

@[simp] theorem State.dayRollEffects_ordered (s : State) (hs : s.Ordered) : (State.dayRollEffects s).Ordered := by
  unfold State.dayRollEffects
  try dsimp only
  (repeat' split) <;> first | with_reducible assumption | (simp (maxDischargeDepth := 30) [hs]; done) | (simp_all (maxDischargeDepth := 30); done)

@[simp] theorem State.hoursEntered_ordered (s : State) (hs : s.Ordered) : (State.hoursEntered s).Ordered := by
  unfold State.hoursEntered
  try dsimp only
  (repeat' split) <;> first | with_reducible assumption | (simp (maxDischargeDepth := 30) [hs]; done) | (simp_all (maxDischargeDepth := 30); done)

@[simp] theorem State.openPassed_ordered (s : State) (hs : s.Ordered) : (State.openPassed s).Ordered := by
  unfold State.openPassed
  try dsimp only
  (repeat' split) <;> first | with_reducible assumption | (simp (maxDischargeDepth := 30) [hs]; done) | (simp_all (maxDischargeDepth := 30); done)

@[simp] theorem State.d2Passed_ordered (s : State) (hs : s.Ordered) : (State.d2Passed s).Ordered := by
  unfold State.d2Passed
  try dsimp only
  (repeat' split) <;> first | with_reducible assumption | (simp (maxDischargeDepth := 30) [hs]; done) | (simp_all (maxDischargeDepth := 30); done)

@[simp] theorem State.timeReached_ordered (s : State) (x0 : TimeEvent) (hs : s.Ordered) :
    (State.timeReached s x0).Ordered := by
  unfold State.timeReached
  try dsimp only
  (repeat' split) <;> first | with_reducible assumption | (simp (maxDischargeDepth := 30) [hs]; done) | (simp_all (maxDischargeDepth := 30); done)

@[simp] theorem State.putTime_ordered (s : State) (day second : Nat) (hs : s.Ordered) :
    (State.putTime s day second).Ordered := by
  unfold State.putTime
  try dsimp only
  (repeat' split) <;> first | with_reducible assumption | (simp (maxDischargeDepth := 30) [hs]; done) | (simp_all (maxDischargeDepth := 30); done)

@[simp] theorem State.becomeValid_ordered (s : State) (day second : Nat) (hs : s.Ordered) :
    (State.becomeValid s day second).Ordered := by
  unfold State.becomeValid
  try dsimp only
  (repeat' split) <;> first | with_reducible assumption | (simp (maxDischargeDepth := 30) [hs]; done) | (simp_all (maxDischargeDepth := 30); done)

@[simp] theorem State.setClock_ordered (s : State) (day second : Nat) (hs : s.Ordered) :
    (State.setClock s day second).Ordered := by
  unfold State.setClock
  split
  · simp [hs]
  · extract_lets days delta s1
    have h1 : s1.Ordered := State.putTime_ordered _ _ _ hs
    split
    · exact hs
    · split
      · exact State.hoursChanged_ordered _ (foldl_ordered _ (fun t e ht => State.timeReached_ordered t e ht) _ _ h1)
      · exact State.hoursChanged_ordered _ h1

@[simp] theorem State.adoptClock_ordered (s : State) (b : Beacon) (hs : s.Ordered) : (State.adoptClock s b).Ordered := by
  unfold State.adoptClock
  try dsimp only
  (repeat' split) <;> first | with_reducible assumption | (simp (maxDischargeDepth := 30) [hs]; done) | (simp_all (maxDischargeDepth := 30); done)

@[simp] theorem State.doDayRoll_ordered (s : State) (hs : s.Ordered) : (State.doDayRoll s).Ordered := by
  unfold State.doDayRoll
  try dsimp only
  (repeat' split) <;> first | with_reducible assumption | (simp (maxDischargeDepth := 30) [hs]; done) | (simp_all (maxDischargeDepth := 30); done)

@[simp] theorem State.doWindowOpen_ordered (s : State) (hs : s.Ordered) : (State.doWindowOpen s).Ordered := by
  unfold State.doWindowOpen
  try dsimp only
  (repeat' split) <;> first | with_reducible assumption | (simp (maxDischargeDepth := 30) [hs]; done) | (simp_all (maxDischargeDepth := 30); done)

@[simp] theorem State.doDeadline1_ordered (s : State) (hs : s.Ordered) : (State.doDeadline1 s).Ordered := by
  unfold State.doDeadline1
  try dsimp only
  (repeat' split) <;> first | with_reducible assumption | (simp (maxDischargeDepth := 30) [hs]; done) | (simp_all (maxDischargeDepth := 30); done)

@[simp] theorem State.doDeadline2_ordered (s : State) (hs : s.Ordered) : (State.doDeadline2 s).Ordered := by
  unfold State.doDeadline2
  try dsimp only
  (repeat' split) <;> first | with_reducible assumption | (simp (maxDischargeDepth := 30) [hs]; done) | (simp_all (maxDischargeDepth := 30); done)

@[simp] theorem State.doHoursEdge_ordered (s : State) (hs : s.Ordered) : (State.doHoursEdge s).Ordered := by
  unfold State.doHoursEdge
  try dsimp only
  (repeat' split) <;> first | with_reducible assumption | (simp (maxDischargeDepth := 30) [hs]; done) | (simp_all (maxDischargeDepth := 30); done)

@[simp] theorem State.timeTaken_ordered (s : State) (n : Station) (day second : Nat) (hs : s.Ordered) :
    (State.timeTaken s n day second).Ordered := by
  unfold State.timeTaken
  try dsimp only
  (repeat' split) <;> first | with_reducible assumption | (simp (maxDischargeDepth := 30) [hs]; done) | (simp_all (maxDischargeDepth := 30); done)

@[simp] theorem State.officeTime_ordered (s : State) (day second : Nat) (hs : s.Ordered) :
    (State.officeTime s day second).Ordered := by
  unfold State.officeTime
  try dsimp only
  (repeat' split) <;> first | with_reducible assumption | (simp (maxDischargeDepth := 30) [hs]; done) | (simp_all (maxDischargeDepth := 30); done)

@[simp] theorem State.timeExpiry_ordered (s : State) (hs : s.Ordered) : (State.timeExpiry s).Ordered := by
  unfold State.timeExpiry
  try dsimp only
  (repeat' split) <;> first | with_reducible assumption | (simp (maxDischargeDepth := 30) [hs]; done) | (simp_all (maxDischargeDepth := 30); done)

@[simp] theorem State.recalcGateway_ordered (s : State) (hs : s.Ordered) : (State.recalcGateway s).Ordered := by
  unfold State.recalcGateway
  try dsimp only
  (repeat' split) <;> first | with_reducible assumption | (simp (maxDischargeDepth := 30) [hs]; done) | (simp_all (maxDischargeDepth := 30); done)

@[simp] theorem State.rosterRecalc_ordered (s : State) (hs : s.Ordered) : (State.rosterRecalc s).Ordered := by
  unfold State.rosterRecalc
  try dsimp only
  (repeat' split) <;> first | with_reducible assumption | (simp (maxDischargeDepth := 30) [hs]; done) | (simp_all (maxDischargeDepth := 30); done)

@[simp] theorem State.putBeacon_ordered (s : State) (hs : s.Ordered) : (State.putBeacon s).Ordered := by
  unfold State.putBeacon
  try dsimp only
  (repeat' split) <;> first | with_reducible assumption | (simp (maxDischargeDepth := 30) [hs]; done) | (simp_all (maxDischargeDepth := 30); done)

@[simp] theorem State.doBeaconDue_ordered (s : State) (hs : s.Ordered) : (State.doBeaconDue s).Ordered := by
  unfold State.doBeaconDue
  try dsimp only
  (repeat' split) <;> first | with_reducible assumption | (simp (maxDischargeDepth := 30) [hs]; done) | (simp_all (maxDischargeDepth := 30); done)

@[simp] theorem State.keptBeacon_ordered (s : State) (hs : s.Ordered) : (State.keptBeacon s).Ordered := by
  unfold State.keptBeacon
  try dsimp only
  (repeat' split) <;> first | with_reducible assumption | (simp (maxDischargeDepth := 30) [hs]; done) | (simp_all (maxDischargeDepth := 30); done)

@[simp] theorem State.setEntry_ordered (s : State) (n : Station) (e : PeerEntry) (hs : s.Ordered) :
    (State.setEntry s n e).Ordered := by
  unfold State.setEntry
  try dsimp only
  (repeat' split) <;> first | with_reducible assumption | (simp (maxDischargeDepth := 30) [hs]; done) | (simp_all (maxDischargeDepth := 30); done)

@[simp] theorem State.becamePresent_ordered (s : State) (hs : s.Ordered) : (State.becamePresent s).Ordered := by
  unfold State.becamePresent
  try dsimp only
  (repeat' split) <;> first | with_reducible assumption | (simp (maxDischargeDepth := 30) [hs]; done) | (simp_all (maxDischargeDepth := 30); done)

@[simp] theorem State.beaconHeard_ordered (s : State) (n : Station) (b : Beacon) (hs : s.Ordered) :
    (State.beaconHeard s n b).Ordered := by
  unfold State.beaconHeard
  try dsimp only
  (repeat' split) <;> first | with_reducible assumption | (simp (maxDischargeDepth := 30) [hs]; done) | (simp_all (maxDischargeDepth := 30); done)

@[simp] theorem State.doEntryQuiet_ordered (n : Station) (s : State) (hs : s.Ordered) :
    (State.doEntryQuiet n s).Ordered := by
  unfold State.doEntryQuiet
  try dsimp only
  (repeat' split) <;> first | with_reducible assumption | (simp (maxDischargeDepth := 30) [hs]; done) | (simp_all (maxDischargeDepth := 30); done)

@[simp] theorem State.pullerAbsent_ordered (s : State) (n : Station) (hs : s.Ordered) :
    (State.pullerAbsent s n).Ordered := by
  unfold State.pullerAbsent
  try dsimp only
  (repeat' split) <;> first | with_reducible assumption | (simp (maxDischargeDepth := 30) [hs]; done) | (simp_all (maxDischargeDepth := 30); done)

@[simp] theorem State.doEntryAbsent_ordered (n : Station) (s : State) (hs : s.Ordered) :
    (State.doEntryAbsent n s).Ordered := by
  unfold State.doEntryAbsent
  try dsimp only
  (repeat' split) <;> first | with_reducible assumption | (simp (maxDischargeDepth := 30) [hs]; done) | (simp_all (maxDischargeDepth := 30); done)

@[simp] theorem State.doLineRest_ordered (s : State) (hs : s.Ordered) : (State.doLineRest s).Ordered := by
  unfold State.doLineRest
  try dsimp only
  (repeat' split) <;> first | with_reducible assumption | (simp (maxDischargeDepth := 30) [hs]; done) | (simp_all (maxDischargeDepth := 30); done)

@[simp] theorem State.report_ordered (s : State) (f : Frame) (carried : Bool) (hs : s.Ordered) :
    (State.report s f carried).Ordered := by
  unfold State.report
  try dsimp only
  (repeat' split) <;> first | with_reducible assumption | (simp (maxDischargeDepth := 30) [hs]; done) | (simp_all (maxDischargeDepth := 30); done)

@[simp] theorem State.silenceDraft_ordered (s : State) (x0 : Draft) (hs : s.Ordered) :
    (State.silenceDraft s x0).Ordered := by
  unfold State.silenceDraft
  try dsimp only
  (repeat' split) <;> first | with_reducible assumption | (simp (maxDischargeDepth := 30) [hs]; done) | (simp_all (maxDischargeDepth := 30); done)

@[simp] theorem State.enterSilenced_ordered (s : State) (hs : s.Ordered) : (State.enterSilenced s).Ordered := by
  unfold State.enterSilenced
  try dsimp only
  (repeat' split) <;> first | with_reducible assumption | (simp (maxDischargeDepth := 30) [hs]; done) | (simp_all (maxDischargeDepth := 30); done)

@[simp] theorem State.lineRestart_ordered (s : State) (hs : s.Ordered) : (State.lineRestart s).Ordered := by
  unfold State.lineRestart
  try dsimp only
  (repeat' split) <;> first | with_reducible assumption | (simp (maxDischargeDepth := 30) [hs]; done) | (simp_all (maxDischargeDepth := 30); done)

@[simp] theorem State.doQuietSpell_ordered (s : State) (hs : s.Ordered) : (State.doQuietSpell s).Ordered := by
  unfold State.doQuietSpell
  try dsimp only
  (repeat' split) <;> first | with_reducible assumption | (simp (maxDischargeDepth := 30) [hs]; done) | (simp_all (maxDischargeDepth := 30); done)

@[simp] theorem State.countAttempt_ordered (s : State) (a : Attempt) (hs : s.Ordered) :
    (State.countAttempt s a).Ordered := by
  unfold State.countAttempt
  try dsimp only
  (repeat' split) <;> first | with_reducible assumption | (simp (maxDischargeDepth := 30) [hs]; done) | (simp_all (maxDischargeDepth := 30); done)

@[simp] theorem State.endSlot_ordered (s : State) (i : Fin 11) (f : Frame) (u : Nat) (w : Bool) (a : Attempt) (hs : s.Ordered) :
    (State.endSlot s i f u w a).Ordered := by
  unfold State.endSlot
  try dsimp only
  (repeat' split) <;> first | with_reducible assumption | (simp (maxDischargeDepth := 30) [hs]; done) | (simp_all (maxDischargeDepth := 30); done)

@[simp] theorem State.doAttemptEnd_ordered (how : AttemptEnd) (s : State) (hs : s.Ordered) :
    (State.doAttemptEnd how s).Ordered := by
  unfold State.doAttemptEnd
  try dsimp only
  (repeat' split) <;> first | with_reducible assumption | (simp (maxDischargeDepth := 30) [hs]; done) | (simp_all (maxDischargeDepth := 30); done)

@[simp] theorem State.inboxLost_ordered (s : State) (hs : s.Ordered) : (State.inboxLost s).Ordered := by
  unfold State.inboxLost
  try dsimp only
  (repeat' split) <;> first | with_reducible assumption | (simp (maxDischargeDepth := 30) [hs]; done) | (simp_all (maxDischargeDepth := 30); done)

@[simp] theorem State.toItemInbox_ordered (s : State) (r : Received) (hs : s.Ordered) : (State.toItemInbox s r).Ordered := by
  unfold State.toItemInbox
  try dsimp only
  (repeat' split) <;> first | with_reducible assumption | (simp (maxDischargeDepth := 30) [hs]; done) | (simp_all (maxDischargeDepth := 30); done)

@[simp] theorem State.toJournalInbox_ordered (s : State) (r : Received) (hs : s.Ordered) :
    (State.toJournalInbox s r).Ordered := by
  unfold State.toJournalInbox
  try dsimp only
  (repeat' split) <;> first | with_reducible assumption | (simp (maxDischargeDepth := 30) [hs]; done) | (simp_all (maxDischargeDepth := 30); done)

@[simp] theorem State.toNightInbox_ordered (s : State) (r : Received) (hs : s.Ordered) :
    (State.toNightInbox s r).Ordered := by
  unfold State.toNightInbox
  try dsimp only
  (repeat' split) <;> first | with_reducible assumption | (simp (maxDischargeDepth := 30) [hs]; done) | (simp_all (maxDischargeDepth := 30); done)

@[simp] theorem State.toAuthInbox_ordered (s : State) (r : Received) (hs : s.Ordered) : (State.toAuthInbox s r).Ordered := by
  unfold State.toAuthInbox
  try dsimp only
  (repeat' split) <;> first | with_reducible assumption | (simp (maxDischargeDepth := 30) [hs]; done) | (simp_all (maxDischargeDepth := 30); done)

@[simp] theorem State.deliver_ordered (s : State) (n : Station) (here : Bool) (p : Payload) (hs : s.Ordered) :
    (State.deliver s n here p).Ordered := by
  unfold State.deliver
  try dsimp only
  (repeat' split) <;> first | with_reducible assumption | (simp (maxDischargeDepth := 30) [hs]; done) | (simp_all (maxDischargeDepth := 30); done)

@[simp] theorem State.accept_ordered (s : State) (claim : BitVec 6) (bytes : List Byte) (hs : s.Ordered) :
    (State.accept s claim bytes).Ordered := by
  unfold State.accept
  try dsimp only
  (repeat' split) <;> first | with_reducible assumption | (simp (maxDischargeDepth := 30) [hs]; done) | (simp_all (maxDischargeDepth := 30); done)

@[simp] theorem State.countReceive_ordered (s : State) (good : Bool) (hs : s.Ordered) :
    (State.countReceive s good).Ordered := by
  unfold State.countReceive
  try dsimp only
  (repeat' split) <;> first | with_reducible assumption | (simp (maxDischargeDepth := 30) [hs]; done) | (simp_all (maxDischargeDepth := 30); done)

@[simp] theorem State.windows_ordered (s : State) (good : Bool) (hs : s.Ordered) : (State.windows s good).Ordered := by
  unfold State.windows
  try dsimp only
  (repeat' split) <;> first | with_reducible assumption | (simp (maxDischargeDepth := 30) [hs]; done) | (simp_all (maxDischargeDepth := 30); done)

@[simp] theorem State.doFrameReceive_ordered (claim : BitVec 6) (bytes : List Byte) (marked : Bool) (s : State) (hs : s.Ordered) :
    (State.doFrameReceive claim bytes marked s).Ordered := by
  unfold State.doFrameReceive
  try dsimp only
  (repeat' split) <;> first | with_reducible assumption | (simp (maxDischargeDepth := 30) [hs]; done) | (simp_all (maxDischargeDepth := 30); done)

@[simp] theorem State.fromCarrier_ordered (s : State) (f : State → State) (hs : s.Ordered) (hw : ∀ t : State, t.Ordered → (f t).Ordered) :
    (State.fromCarrier s f).Ordered := by
  unfold State.fromCarrier
  try dsimp only
  (repeat' split) <;> first | with_reducible assumption | (simp (maxDischargeDepth := 30) [hs]; done) | (simp_all (maxDischargeDepth := 30); done)

@[simp] theorem State.linkDown_ordered (s : State) (hs : s.Ordered) : (State.linkDown s).Ordered := by
  unfold State.linkDown
  try dsimp only
  (repeat' split) <;> first | with_reducible assumption | (simp (maxDischargeDepth := 30) [hs]; done) | (simp_all (maxDischargeDepth := 30); done)

@[simp] theorem State.linkRise_ordered (s : State) (hs : s.Ordered) : (State.linkRise s).Ordered := by
  unfold State.linkRise
  try dsimp only
  (repeat' split) <;> first | with_reducible assumption | (simp (maxDischargeDepth := 30) [hs]; done) | (simp_all (maxDischargeDepth := 30); done)

@[simp] theorem State.doLink_ordered (up : Bool) (s : State) (hs : s.Ordered) : (State.doLink up s).Ordered := by
  unfold State.doLink
  refine State.fromCarrier_ordered _ _ hs (fun t ht => ?_)
  (repeat' split) <;> simp [ht]

@[simp] theorem State.doPresenceLost_ordered (s : State) (hs : s.Ordered) : (State.doPresenceLost s).Ordered := by
  unfold State.doPresenceLost
  try dsimp only
  (repeat' split) <;> first | with_reducible assumption | (simp (maxDischargeDepth := 30) [hs]; done) | (simp_all (maxDischargeDepth := 30); done)

@[simp] theorem State.doCarrierFree_ordered (s : State) (hs : s.Ordered) : (State.doCarrierFree s).Ordered := by
  unfold State.doCarrierFree
  try dsimp only
  (repeat' split) <;> first | with_reducible assumption | (simp (maxDischargeDepth := 30) [hs]; done) | (simp_all (maxDischargeDepth := 30); done)

@[simp] theorem State.countMalformed_ordered (s : State) (hs : s.Ordered) : (State.countMalformed s).Ordered := by
  unfold State.countMalformed
  simp [hs]

@[simp] theorem State.doMalformed_ordered (s : State) (hs : s.Ordered) : (State.doMalformed s).Ordered := by
  unfold State.doMalformed
  try dsimp only
  (repeat' split) <;> first | with_reducible assumption | (simp (maxDischargeDepth := 30) [hs]; done) | (simp_all (maxDischargeDepth := 30); done)

@[simp] theorem State.doOfficeAns_ordered (tag : Nat) (d : OfficeDecision) (s : State) (hs : s.Ordered) :
    (State.doOfficeAns tag d s).Ordered := by
  unfold State.doOfficeAns
  try dsimp only
  (repeat' split) <;> first | with_reducible assumption | (simp (maxDischargeDepth := 30) [hs]; done) | (simp_all (maxDischargeDepth := 30); done)

@[simp] theorem State.doPacketIn_ordered (port : Nat) (data : List Byte) (s : State) (hs : s.Ordered) :
    (State.doPacketIn port data s).Ordered := by
  unfold State.doPacketIn
  try dsimp only
  (repeat' split) <;> first | with_reducible assumption | (simp (maxDischargeDepth := 30) [hs]; done) | (simp_all (maxDischargeDepth := 30); done)

@[simp] theorem State.doJtaken_ordered (station seq : Nat) (s : State) (hs : s.Ordered) :
    (State.doJtaken station seq s).Ordered := by
  unfold State.doJtaken
  try dsimp only
  (repeat' split) <;> first | with_reducible assumption | (simp (maxDischargeDepth := 30) [hs]; done) | (simp_all (maxDischargeDepth := 30); done)

@[simp] theorem State.batchRecTaken_ordered (s : State) (p : PriceSet) (hs : s.Ordered) :
    (State.batchRecTaken s p).Ordered := by
  unfold State.batchRecTaken
  try dsimp only
  (repeat' split) <;> first | with_reducible assumption | (simp (maxDischargeDepth := 30) [hs]; done) | (simp_all (maxDischargeDepth := 30); done)

@[simp] theorem State.doBatchRec_ordered (p : PriceSet) (s : State) (hs : s.Ordered) : (State.doBatchRec p s).Ordered := by
  unfold State.doBatchRec
  try dsimp only
  (repeat' split) <;> first | with_reducible assumption | (simp (maxDischargeDepth := 30) [hs]; done) | (simp_all (maxDischargeDepth := 30); done)

@[simp] theorem State.batchEndTaken_ordered (s : State) (l : Nat) (hs : s.Ordered) : (State.batchEndTaken s l).Ordered := by
  unfold State.batchEndTaken
  try dsimp only
  (repeat' split) <;> first | with_reducible assumption | (simp (maxDischargeDepth := 30) [hs]; done) | (simp_all (maxDischargeDepth := 30); done)

@[simp] theorem State.doBatchEnd_ordered (l : Nat) (s : State) (hs : s.Ordered) : (State.doBatchEnd l s).Ordered := by
  unfold State.doBatchEnd
  try dsimp only
  (repeat' split) <;> first | with_reducible assumption | (simp (maxDischargeDepth := 30) [hs]; done) | (simp_all (maxDischargeDepth := 30); done)

@[simp] theorem State.stallExpiry_ordered (s : State) (hs : s.Ordered) : (State.stallExpiry s).Ordered := by
  unfold State.stallExpiry
  try dsimp only
  (repeat' split) <;> first | with_reducible assumption | (simp (maxDischargeDepth := 30) [hs]; done) | (simp_all (maxDischargeDepth := 30); done)

@[simp] theorem State.doOfficeTime_ordered (day second : Nat) (s : State) (hs : s.Ordered) :
    (State.doOfficeTime day second s).Ordered := by
  unfold State.doOfficeTime
  try dsimp only
  (repeat' split) <;> first | with_reducible assumption | (simp (maxDischargeDepth := 30) [hs]; done) | (simp_all (maxDischargeDepth := 30); done)

@[simp] theorem State.lostNote_ordered (s : State) (l : Lane) (hs : s.Ordered) : (State.lostNote s l).Ordered := by
  unfold State.lostNote
  try dsimp only
  (repeat' split) <;> first | with_reducible assumption | (simp (maxDischargeDepth := 30) [hs]; done) | (simp_all (maxDischargeDepth := 30); done)

@[simp] theorem State.enterListen_ordered (s : State) (hs : s.Ordered) : (State.enterListen s).Ordered := by
  unfold State.enterListen
  try dsimp only
  (repeat' split) <;> first | with_reducible assumption | (simp (maxDischargeDepth := 30) [hs]; done) | (simp_all (maxDischargeDepth := 30); done)

@[simp] theorem State.doProfileRead_ordered (bytes : Option (List Byte)) (s : State) (hs : s.Ordered) :
    (State.doProfileRead bytes s).Ordered := by
  unfold State.doProfileRead
  try dsimp only
  (repeat' split) <;> first | with_reducible assumption | (simp (maxDischargeDepth := 30) [hs]; done) | (simp_all (maxDischargeDepth := 30); done)

@[simp] theorem State.doListenExpiry_ordered (s : State) (hs : s.Ordered) : (State.doListenExpiry s).Ordered := by
  unfold State.doListenExpiry
  try dsimp only
  (repeat' split) <;> first | with_reducible assumption | (simp (maxDischargeDepth := 30) [hs]; done) | (simp_all (maxDischargeDepth := 30); done)

@[simp] theorem State.clearFaults_ordered (s : State) (hs : s.Ordered) : (State.clearFaults s).Ordered := by
  unfold State.clearFaults
  try dsimp only
  (repeat' split) <;> first | with_reducible assumption | (simp (maxDischargeDepth := 30) [hs]; done) | (simp_all (maxDischargeDepth := 30); done)

@[simp] theorem State.raiseLevels_ordered (s : State) (hs : s.Ordered) : (State.raiseLevels s).Ordered := by
  unfold State.raiseLevels
  try dsimp only
  (repeat' split) <;> first | with_reducible assumption | (simp (maxDischargeDepth := 30) [hs]; done) | (simp_all (maxDischargeDepth := 30); done)

@[simp] theorem State.clearWork_ordered (r : Request) (s : State) (hs : s.Ordered) : (State.clearWork r s).Ordered := by
  unfold State.clearWork
  try dsimp only
  (repeat' split) <;> first | with_reducible assumption | (simp (maxDischargeDepth := 30) [hs]; done) | (simp_all (maxDischargeDepth := 30); done)

@[simp] theorem State.doClear_ordered (r : Request) (s : State) (hs : s.Ordered) : (State.doClear r s).Ordered := by
  unfold State.doClear
  try dsimp only
  (repeat' split) <;> first | with_reducible assumption | (simp (maxDischargeDepth := 30) [hs]; done) | (simp_all (maxDischargeDepth := 30); done)

@[simp] theorem State.doTakeJrel_ordered (s : State) (hs : s.Ordered) : (State.doTakeJrel s).Ordered := by
  unfold State.doTakeJrel
  try dsimp only
  (repeat' split) <;> first | with_reducible assumption | (simp (maxDischargeDepth := 30) [hs]; done) | (simp_all (maxDischargeDepth := 30); done)

@[simp] theorem State.doTakeClaim_ordered (s : State) (hs : s.Ordered) : (State.doTakeClaim s).Ordered := by
  unfold State.doTakeClaim
  try dsimp only
  (repeat' split) <;> first | with_reducible assumption | (simp (maxDischargeDepth := 30) [hs]; done) | (simp_all (maxDischargeDepth := 30); done)

@[simp] theorem State.doNightHeld_ordered (s : State) (hs : s.Ordered) : (State.doNightHeld s).Ordered := by
  unfold State.doNightHeld
  try dsimp only
  (repeat' split) <;> first | with_reducible assumption | (simp (maxDischargeDepth := 30) [hs]; done) | (simp_all (maxDischargeDepth := 30); done)

@[simp] theorem State.doNightDone_ordered (s : State) (hs : s.Ordered) : (State.doNightDone s).Ordered := by
  unfold State.doNightDone
  try dsimp only
  (repeat' split) <;> first | with_reducible assumption | (simp (maxDischargeDepth := 30) [hs]; done) | (simp_all (maxDischargeDepth := 30); done)

@[simp] theorem State.doNightTime_ordered (s : State) (hs : s.Ordered) : (State.doNightTime s).Ordered := by
  unfold State.doNightTime
  try dsimp only
  (repeat' split) <;> first | with_reducible assumption | (simp (maxDischargeDepth := 30) [hs]; done) | (simp_all (maxDischargeDepth := 30); done)

@[simp] theorem State.doNightClosed_ordered (s : State) (hs : s.Ordered) : (State.doNightClosed s).Ordered := by
  unfold State.doNightClosed
  try dsimp only
  (repeat' split) <;> first | with_reducible assumption | (simp (maxDischargeDepth := 30) [hs]; done) | (simp_all (maxDischargeDepth := 30); done)

@[simp] theorem State.doRestEnd_ordered (s : State) (hs : s.Ordered) : (State.doRestEnd s).Ordered := by
  unfold State.doRestEnd
  try dsimp only
  (repeat' split) <;> first | with_reducible assumption | (simp (maxDischargeDepth := 30) [hs]; done) | (simp_all (maxDischargeDepth := 30); done)

@[simp] theorem State.tick_ordered (s : State) (hs : s.Ordered) : (State.tick s).Ordered := by
  unfold State.tick
  try dsimp only
  (repeat' split) <;> first | with_reducible assumption | (simp (maxDischargeDepth := 30) [hs]; done) | (simp_all (maxDischargeDepth := 30); done)

@[simp] theorem State.idle_ordered (s : State) (hs : s.Ordered) : (State.idle s).Ordered := by
  unfold State.idle
  try dsimp only
  (repeat' split) <;> first | with_reducible assumption | (simp (maxDischargeDepth := 30) [hs]; done) | (simp_all (maxDischargeDepth := 30); done)

end Sys2Proof.Machine
end

