-- ==== Sys2Proof/Laws/Settle.lean ====
section
/-! SUPPORT. Where nothing waits, settling changes nothing; where no label is bound and no exchange can start, a change of an item
reaches no label; where nothing follows it, the taking of a frame from the Item inbox ends with the taking. -/

namespace Sys2Proof.Machine

theorem State.checkPrices_rest (s : State) (h : s.night.state ≠ .exchanging) : s.checkPrices = s := by
  simp [State.checkPrices, h]

theorem joinBacklog_nil (k : Nat) (r : Router) (h : r.backlog = []) : joinBacklog k r = r := by
  cases k with
  | zero => rfl
  | succ k => simp [joinBacklog, h]

theorem State.joinAll_rest (s : State) (hw : s.night.waiting = []) (hb : s.router.backlog = [])
    (hr : s.night.reports = []) : s.joinAll = s := by
  have h1 : State.joinNight s.night.waiting s = s := by
    rw [hw]
    simp only [State.joinNight, State.onNight]
    rw [← hw]
  unfold State.joinAll
  rw [h1]
  have h2 : (s.onRouter fun r => joinBacklog Config.backlogPlaces r) = s := by
    simp only [State.onRouter, joinBacklog_nil _ _ hb]
  rw [h2]
  simp [hr, State.joinReports]

theorem State.schedule_rest (s : State) (h : (s.router.linkUp && s.router.linkFree) = false) : s.schedule = s := by
  simp only [State.schedule, h, Bool.false_eq_true, if_false]

theorem State.pump_rest (s : State) (h : AtRest s) : s.pump = s := by
  unfold State.pump
  rw [State.joinAll_rest s h.waiting h.backlog h.report, State.schedule_rest s h.carrier,
    State.joinAll_rest s h.waiting h.backlog h.report]

theorem State.testDayDrain_rest (s : State) (h : s.drainCalled = false) : s.testDayDrain = s := by
  have h' : s.drainCalledAt s.clock.second = false := h
  simp only [State.testDayDrain, State.testDayDrainAt, h', Bool.false_eq_true, if_false]

/-- Where nothing waits, settling changes nothing. -/
theorem State.settle_rest (s : State) (h : AtRest s) : s.settle = s := by
  unfold State.settle
  rw [State.checkPrices_rest s h.night, State.pump_rest s h, State.testDayDrain_rest s h.drain, State.pump_rest s h]

/-- With nothing behind it the taking of a frame from the Item inbox is the whole step. -/
theorem State.afterItemTake_plain (s : State) (h : InboxPlain s) : s.afterItemTake = s := by
  have h1 : (s.onItems fun t => { t with doneWaits := [] }) = s := by
    simp only [State.onItems]
    rw [← h.waits]
  simp [State.afterItemTake, h.waits, h1, h.repair]

/-- A change of an item that no label here is bound to does nothing. -/
theorem State.itemChanged_idle (s : State) (item : Nat) (h : s.held.bound item = []) : s.itemChanged item = s := by
  simp [State.itemChanged, h]

end Sys2Proof.Machine
end

