-- ==== Sys2Proof/Laws/Still.lean ====
section
/-! SUPPORT. What no shared operation changes: the commands that wait, the straps, the profile, power, running time, the Line
Port's counts and its four inboxes, and the Roster's entries. One lemma per operation; the commands that do change one of them are not here. -/

namespace Sys2Proof.Machine

/-- The parts of State that only a few named commands change. -/
structure Still where
  pending      : List Instr
  straps       : Straps
  profile      : Profile
  profileBad   : Bool
  powered      : Bool
  now          : Nat
  sfc          : Nat
  hfc          : Nat
  quietCount   : Nat
  itemInbox    : List Received
  journalInbox : List Received
  nightInbox   : List Received
  authInbox    : List Received
  entries      : Vector (Option PeerEntry) 8

/-- Those parts of a state. -/
def State.still (s : State) : Still where
  pending := s.pending
  straps := s.start.straps
  profile := s.start.profile
  profileBad := s.start.profileBad
  powered := s.start.powered
  now := s.clock.now
  sfc := s.line.sfc
  hfc := s.line.hfc
  quietCount := s.line.quietCount
  itemInbox := s.line.itemInbox
  journalInbox := s.line.journalInbox
  nightInbox := s.line.nightInbox
  authInbox := s.line.authInbox
  entries := s.roster.entries

@[simp] theorem foldl_still {α : Type} (f : State → α → State) (h : ∀ t x, (f t x).still = t.still) (xs : List α) (s : State) :
    (xs.foldl f s).still = s.still := by
  induction xs generalizing s with
  | nil => rfl
  | cons x xs ih => rw [List.foldl_cons, ih, h]

/-- A change of the Line Port that leaves its counts and inboxes as they are. -/
@[simp] theorem State.onLine_still (s : State) (f : LinePort → LinePort)
    (h : (f s.line).sfc = s.line.sfc ∧ (f s.line).hfc = s.line.hfc ∧ (f s.line).quietCount = s.line.quietCount ∧
      (f s.line).itemInbox = s.line.itemInbox ∧ (f s.line).journalInbox = s.line.journalInbox ∧
      (f s.line).nightInbox = s.line.nightInbox ∧ (f s.line).authInbox = s.line.authInbox) :
    (s.onLine f).still = s.still := by
  obtain ⟨h1, h2, h3, h4, h5, h6, h7⟩ := h
  simp only [State.still, State.onLine, h1, h2, h3, h4, h5, h6, h7]

/-- A change of the Clock that leaves running time as it is. -/
@[simp] theorem State.onClock_still (s : State) (f : Clock → Clock) (h : (f s.clock).now = s.clock.now) :
    (s.onClock f).still = s.still := by
  simp only [State.still, State.onClock, h]

/-- A change of Start Control that leaves straps, profile and power as they are. -/
@[simp] theorem State.onStart_still (s : State) (f : StartControl → StartControl)
    (h : (f s.start).straps = s.start.straps ∧ (f s.start).profile = s.start.profile ∧
      (f s.start).profileBad = s.start.profileBad ∧ (f s.start).powered = s.start.powered) :
    (s.onStart f).still = s.still := by
  obtain ⟨h1, h2, h3, h4⟩ := h
  simp only [State.still, State.onStart, h1, h2, h3, h4]

/-- A change of the Roster that leaves its entries as they are. -/
@[simp] theorem State.onRoster_still (s : State) (f : Roster → Roster) (h : (f s.roster).entries = s.roster.entries) :
    (s.onRoster f).still = s.still := by
  simp only [State.still, State.onRoster, h]

/-- Updates written out as a record: every block but the Line Port, the Roster, the Clock and Start Control may differ. -/
@[simp] theorem still_mk (s : State) (it : ItemTable) (la : Vector LaneContext 4) (he : HeldMemory)
    (jo : Option OwnerBatch) (lb : LabelUnit) (r : Router) (g : GuestUnit) (n : Night) (fa : FaultRecord)
    (ou : List Output) :
    (State.mk s.line s.roster it la he jo lb r g n s.clock fa s.start ou s.pending).still = s.still := rfl

@[simp] theorem State.onItems_still (s : State) (f : ItemTable → ItemTable) : (State.onItems s f).still = s.still := rfl

@[simp] theorem State.onHeld_still (s : State) (f : HeldMemory → HeldMemory) : (State.onHeld s f).still = s.still := rfl

@[simp] theorem State.onLabels_still (s : State) (f : LabelUnit → LabelUnit) : (State.onLabels s f).still = s.still := rfl

@[simp] theorem State.onRouter_still (s : State) (f : Router → Router) : (State.onRouter s f).still = s.still := rfl

@[simp] theorem State.onGuest_still (s : State) (f : GuestUnit → GuestUnit) : (State.onGuest s f).still = s.still := rfl

@[simp] theorem State.onNight_still (s : State) (f : Night → Night) : (State.onNight s f).still = s.still := rfl

@[simp] theorem State.onFaults_still (s : State) (f : FaultRecord → FaultRecord) : (State.onFaults s f).still = s.still := rfl

@[simp] theorem State.setJournal_still (s : State) (b : Option OwnerBatch) : (State.setJournal s b).still = s.still := rfl

@[simp] theorem State.emit_still (s : State) (o : Output) : (State.emit s o).still = s.still := rfl

@[simp] theorem State.onLane_still (s : State) (l : Lane) (f : LaneContext → LaneContext) :
    (State.onLane s l f).still = s.still := rfl

@[simp] theorem State.onBasket_still (s : State) (l : Lane) (f : Basket → Basket) :
    (State.onBasket s l f).still = s.still := rfl

@[simp] theorem State.setSlot_still (s : State) (i : Fin 11) (x : Slot) : (State.setSlot s i x).still = s.still := rfl

@[simp] theorem State.fillDraft_still (s : State) (x0 : Draft) : (fillDraft s x0).2.still = s.still := by
  unfold fillDraft
  split
  · rfl
  · dsimp only; split <;> simp
  · dsimp only; split <;> simp

@[simp] theorem State.refillOnce_still (s : State) (o : Owner) : (State.refillOnce s o).still = s.still := by
  unfold State.refillOnce
  split
  · split
    · next h => simpa using congrArg (fun x => State.still x.2) h.symm
    · next h => simpa using congrArg (fun x => State.still x.2) h.symm
  · rfl

@[simp] theorem State.refill_still (s : State) (o : Owner) : (State.refill s o).still = s.still := by
  unfold State.refill
  try dsimp only
  (repeat' split) <;> first | (simp; done) | (simp_all; done) | with_reducible rfl

@[simp] theorem State.place_still (s : State) (d : Draft) : (State.place s d).still = s.still := by
  unfold State.place
  try dsimp only
  (repeat' split) <;> first | (simp; done) | (simp_all; done) | with_reducible rfl

@[simp] theorem State.withdrawBy_still (s : State) (change : Slot → Slot) (o : Owner) (p : Frame → Bool) :
    (State.withdrawBy s change o p).still = s.still := by
  unfold State.withdrawBy
  try dsimp only
  (repeat' split) <;> first | (simp; done) | (simp_all; done) | with_reducible rfl

@[simp] theorem State.withdraw_still (s : State) (o : Owner) (p : Frame → Bool) : (State.withdraw s o p).still = s.still := by
  unfold State.withdraw
  try dsimp only
  (repeat' split) <;> first | (simp; done) | (simp_all; done) | with_reducible rfl

@[simp] theorem State.withdrawWaiting_still (s : State) (o : Owner) (p : Frame → Bool) :
    (State.withdrawWaiting s o p).still = s.still := by
  unfold State.withdrawWaiting
  try dsimp only
  (repeat' split) <;> first | (simp; done) | (simp_all; done) | with_reducible rfl

@[simp] theorem State.recalcPressure_still (s : State) : (State.recalcPressure s).still = s.still := by
  unfold State.recalcPressure
  try dsimp only
  (repeat' split) <;> first | (simp; done) | (simp_all; done) | with_reducible rfl

@[simp] theorem State.handOver_still (s : State) (item : CarrierItem) (r : Router) :
    (State.handOver s item r).still = s.still := rfl

@[simp] theorem State.turns_still (x0 : Nat) (s : State) : (State.turns x0 s).still = s.still := by
  induction x0 generalizing s with
  | zero => rfl
  | succ n ih =>
    unfold State.turns
    split
    · split <;> simp
    · extract_lets r
      clear_value r
      split
      · simp [ih]
      · split
        · split <;> simp
        · simp [ih]

@[simp] theorem State.schedule_still (s : State) : (State.schedule s).still = s.still := by
  unfold State.schedule
  try dsimp only
  (repeat' split) <;> first | (simp; done) | (simp_all; done) | with_reducible rfl

@[simp] theorem State.forwardNote_still (s : State) (station : Station) (flag : FaultFlag) (raised : Stamp) :
    (State.forwardNote s station flag raised).still = s.still := by
  unfold State.forwardNote
  try dsimp only
  (repeat' split) <;> first | (simp; done) | (simp_all; done) | with_reducible rfl

@[simp] theorem State.setFlag_still (s : State) (f : FaultFlag) (e : FlagEntry) : (State.setFlag s f e).still = s.still := by
  unfold State.setFlag
  try dsimp only
  (repeat' split) <;> first | (simp; done) | (simp_all; done) | with_reducible rfl

@[simp] theorem State.noteOutcome_still (s : State) (f : FaultFlag) (raised : Stamp) (carried : Bool) :
    (State.noteOutcome s f raised carried).still = s.still := by
  unfold State.noteOutcome
  try dsimp only
  (repeat' split) <;> first | (simp; done) | (simp_all; done) | with_reducible rfl

@[simp] theorem State.produceNote_still (s : State) (f : FaultFlag) (raised : Stamp) (resend : Bool) :
    (State.produceNote s f raised resend).still = s.still := by
  unfold State.produceNote
  try dsimp only
  (repeat' split) <;> first | (simp; done) | (simp_all; done) | with_reducible rfl

@[simp] theorem State.raise_still (s : State) (f : FaultFlag) : (State.raise s f).still = s.still := by
  unfold State.raise
  try dsimp only
  (repeat' split) <;> first | (simp; done) | (simp_all; done) | with_reducible rfl

@[simp] theorem State.dropFlag_still (s : State) (f : FaultFlag) : (State.dropFlag s f).still = s.still := by
  unfold State.dropFlag
  try dsimp only
  (repeat' split) <;> first | (simp; done) | (simp_all; done) | with_reducible rfl

@[simp] theorem State.resendNotes_still (s : State) : (State.resendNotes s).still = s.still := by
  unfold State.resendNotes
  refine foldl_still _ (fun t f => ?_) _ _
  split <;> simp

@[simp] theorem State.testJournal_still (s : State) : (State.testJournal s).still = s.still := by
  unfold State.testJournal
  try dsimp only
  (repeat' split) <;> first | (simp; done) | (simp_all; done) | with_reducible rfl

@[simp] theorem State.writeNote_still (s : State) (c : RecordContent) : (State.writeNote s c).still = s.still := by
  unfold State.writeNote
  try dsimp only
  (repeat' split) <;> first | (simp; done) | (simp_all; done) | with_reducible rfl

@[simp] theorem State.endBasket_still (s : State) (l : Lane) (type : Option RecordType) :
    (State.endBasket s l type).still = s.still := by
  unfold State.endBasket
  try dsimp only
  (repeat' split) <;> first | (simp; done) | (simp_all; done) | with_reducible rfl

@[simp] theorem State.endOwnerBatch_still (s : State) : (State.endOwnerBatch s).still = s.still := by
  unfold State.endOwnerBatch
  try dsimp only
  (repeat' split) <;> first | (simp; done) | (simp_all; done) | with_reducible rfl

@[simp] theorem State.stopSending_still (s : State) : (State.stopSending s).still = s.still := by
  unfold State.stopSending
  try dsimp only
  (repeat' split) <;> first | (simp; done) | (simp_all; done) | with_reducible rfl

@[simp] theorem State.produceJseg_still (s : State) (n : Station) (g : Jseg) : (State.produceJseg s n g).still = s.still := by
  unfold State.produceJseg
  try dsimp only
  (repeat' split) <;> first | (simp; done) | (simp_all; done) | with_reducible rfl

@[simp] theorem State.chooseBatch_still (s : State) (p : Puller) (count : Nat) :
    (State.chooseBatch s p count).still = s.still := by
  unfold State.chooseBatch
  try dsimp only
  (repeat' split) <;> first | (simp; done) | (simp_all; done) | with_reducible rfl

@[simp] theorem State.jpullFrom_still (s : State) (n : Station) (count : Nat) :
    (State.jpullFrom s n count).still = s.still := by
  unfold State.jpullFrom
  try dsimp only
  (repeat' split) <;> first | (simp; done) | (simp_all; done) | with_reducible rfl

@[simp] theorem State.jsegCarried_still (s : State) (n : Station) (g : Jseg) : (State.jsegCarried s n g).still = s.still := by
  unfold State.jsegCarried
  try dsimp only
  (repeat' split) <;> first | (simp; done) | (simp_all; done) | with_reducible rfl

@[simp] theorem State.jrelFrom_still (s : State) (p : Puller) (seq : Nat) : (State.jrelFrom s p seq).still = s.still := by
  unfold State.jrelFrom
  try dsimp only
  (repeat' split) <;> first | (simp; done) | (simp_all; done) | with_reducible rfl

@[simp] theorem State.jpullLocal_still (s : State) : (State.jpullLocal s).still = s.still := by
  unfold State.jpullLocal
  try dsimp only
  (repeat' split) <;> first | (simp; done) | (simp_all; done) | with_reducible rfl

@[simp] theorem State.answer_still (s : State) (l : Lane) (number : Nat) (code : ResultCode) (contents : Contents) :
    (State.answer s l number code contents).still = s.still := by
  unfold State.answer
  try dsimp only
  (repeat' split) <;> first | (simp; done) | (simp_all; done) | with_reducible rfl

@[simp] theorem State.request_still (s : State) (r : Request) (f : RequestForm) (work : State → State) (hw : (work s).still = s.still) :
    (State.request s r f work).still = s.still := by
  unfold State.request
  try dsimp only
  (repeat' split) <;> first | (simp; done) | (simp_all; done) | with_reducible rfl

@[simp] theorem State.openWork_still (r : Request) (s : State) : (State.openWork r s).still = s.still := by
  unfold State.openWork
  try dsimp only
  (repeat' split) <;> first | (simp; done) | (simp_all; done) | with_reducible rfl

@[simp] theorem State.doOpen_still (r : Request) (s : State) : (State.doOpen r s).still = s.still := by
  unfold State.doOpen
  try dsimp only
  (repeat' split) <;> first | (simp; done) | (simp_all; done) | with_reducible rfl

@[simp] theorem State.priceWork_still (r : Request) (want : ItemKind) (item quantity : Nat) (s : State) :
    (State.priceWork r want item quantity s).still = s.still := by
  unfold State.priceWork
  try dsimp only
  (repeat' split) <;> first | (simp; done) | (simp_all; done) | with_reducible rfl

@[simp] theorem State.doPrice_still (r : Request) (want : ItemKind) (item quantity : Nat) (s : State) :
    (State.doPrice r want item quantity s).still = s.still := by
  unfold State.doPrice
  try dsimp only
  (repeat' split) <;> first | (simp; done) | (simp_all; done) | with_reducible rfl

@[simp] theorem State.voidWork_still (r : Request) (line : Nat) (s : State) : (State.voidWork r line s).still = s.still := by
  unfold State.voidWork
  try dsimp only
  (repeat' split) <;> first | (simp; done) | (simp_all; done) | with_reducible rfl

@[simp] theorem State.doVoid_still (r : Request) (line : Nat) (s : State) : (State.doVoid r line s).still = s.still := by
  unfold State.doVoid
  try dsimp only
  (repeat' split) <;> first | (simp; done) | (simp_all; done) | with_reducible rfl

@[simp] theorem State.askWork_still (r : Request) (item : Nat) (s : State) : (State.askWork r item s).still = s.still := by
  unfold State.askWork
  try dsimp only
  (repeat' split) <;> first | (simp; done) | (simp_all; done) | with_reducible rfl

@[simp] theorem State.doAsk_still (r : Request) (item : Nat) (s : State) : (State.doAsk r item s).still = s.still := by
  unfold State.doAsk
  try dsimp only
  (repeat' split) <;> first | (simp; done) | (simp_all; done) | with_reducible rfl

@[simp] theorem State.totalWork_still (r : Request) (s : State) : (State.totalWork r s).still = s.still := by
  unfold State.totalWork
  try dsimp only
  (repeat' split) <;> first | (simp; done) | (simp_all; done) | with_reducible rfl

@[simp] theorem State.doTotal_still (r : Request) (s : State) : (State.doTotal r s).still = s.still := by
  unfold State.doTotal
  try dsimp only
  (repeat' split) <;> first | (simp; done) | (simp_all; done) | with_reducible rfl

@[simp] theorem State.resumeWork_still (r : Request) (s : State) : (State.resumeWork r s).still = s.still := by
  unfold State.resumeWork
  try dsimp only
  (repeat' split) <;> first | (simp; done) | (simp_all; done) | with_reducible rfl

@[simp] theorem State.doResume_still (r : Request) (s : State) : (State.doResume r s).still = s.still := by
  unfold State.doResume
  try dsimp only
  (repeat' split) <;> first | (simp; done) | (simp_all; done) | with_reducible rfl

@[simp] theorem State.cashWork_still (r : Request) (amount : Nat) (s : State) :
    (State.cashWork r amount s).still = s.still := by
  unfold State.cashWork
  try dsimp only
  (repeat' split) <;> first | (simp; done) | (simp_all; done) | with_reducible rfl

@[simp] theorem State.doCash_still (r : Request) (amount : Nat) (s : State) : (State.doCash r amount s).still = s.still := by
  unfold State.doCash
  try dsimp only
  (repeat' split) <;> first | (simp; done) | (simp_all; done) | with_reducible rfl

@[simp] theorem State.closeWork_still (r : Request) (s : State) : (State.closeWork r s).still = s.still := by
  unfold State.closeWork
  try dsimp only
  (repeat' split) <;> first | (simp; done) | (simp_all; done) | with_reducible rfl

@[simp] theorem State.doFrameBad_still (l : Lane) (s : State) : (State.doFrameBad l s).still = s.still := by
  unfold State.doFrameBad
  try dsimp only
  (repeat' split) <;> first | (simp; done) | (simp_all; done) | with_reducible rfl

@[simp] theorem State.doUnknown_still (l : Lane) (number : Nat) (s : State) :
    (State.doUnknown l number s).still = s.still := by
  unfold State.doUnknown
  try dsimp only
  (repeat' split) <;> first | (simp; done) | (simp_all; done) | with_reducible rfl

@[simp] theorem State.doAnswerSent_still (l : Lane) (s : State) : (State.doAnswerSent l s).still = s.still := by
  unfold State.doAnswerSent
  try dsimp only
  (repeat' split) <;> first | (simp; done) | (simp_all; done) | with_reducible rfl

@[simp] theorem State.doBreakEnd_still (l : Lane) (s : State) : (State.doBreakEnd l s).still = s.still := by
  unfold State.doBreakEnd
  try dsimp only
  (repeat' split) <;> first | (simp; done) | (simp_all; done) | with_reducible rfl

@[simp] theorem State.answerCard_still (s : State) (l : Lane) (code : ResultCode) (contents : Contents) :
    (State.answerCard s l code contents).still = s.still := by
  unfold State.answerCard
  try dsimp only
  (repeat' split) <;> first | (simp; done) | (simp_all; done) | with_reducible rfl

@[simp] theorem State.endAuth_still (s : State) (l : Lane) (late : Option Decision) :
    (State.endAuth s l late).still = s.still := by
  unfold State.endAuth
  try dsimp only
  (repeat' split) <;> first | (simp; done) | (simp_all; done) | with_reducible rfl

@[simp] theorem State.standInEffect_still (s : State) (l : Lane) (amount : Nat) :
    (State.standInEffect s l amount).still = s.still := by
  unfold State.standInEffect
  try dsimp only
  (repeat' split) <;> first | (simp; done) | (simp_all; done) | with_reducible rfl

@[simp] theorem State.standIn_still (s : State) (l : Lane) (late : Bool) : (State.standIn s l late).still = s.still := by
  unfold State.standIn
  try dsimp only
  (repeat' split) <;> first | (simp; done) | (simp_all; done) | with_reducible rfl

@[simp] theorem State.lateAnswer_still (s : State) (l : Lane) (basket : Nat) (d : Decision) :
    (State.lateAnswer s l basket d).still = s.still := by
  unfold State.lateAnswer
  try dsimp only
  (repeat' split) <;> first | (simp; done) | (simp_all; done) | with_reducible rfl

@[simp] theorem State.decideCard_still (s : State) (l : Lane) (amount : Nat) (d : Decision) :
    (State.decideCard s l amount d).still = s.still := by
  unfold State.decideCard
  try dsimp only
  (repeat' split) <;> first | (simp; done) | (simp_all; done) | with_reducible rfl

@[simp] theorem State.takeAnswer_still (s : State) (l : Lane) (basket : Nat) (d : Decision) :
    (State.takeAnswer s l basket d).still = s.still := by
  unfold State.takeAnswer
  try dsimp only
  (repeat' split) <;> first | (simp; done) | (simp_all; done) | with_reducible rfl

@[simp] theorem State.doAuthTimer_still (l : Lane) (s : State) : (State.doAuthTimer l s).still = s.still := by
  unfold State.doAuthTimer
  try dsimp only
  (repeat' split) <;> first | (simp; done) | (simp_all; done) | with_reducible rfl

@[simp] theorem State.doLateExpiry_still (l : Lane) (s : State) : (State.doLateExpiry l s).still = s.still := by
  unfold State.doLateExpiry
  try dsimp only
  (repeat' split) <;> first | (simp; done) | (simp_all; done) | with_reducible rfl

@[simp] theorem State.breakLane_still (s : State) (l : Lane) : (State.breakLane s l).still = s.still := by
  unfold State.breakLane
  try dsimp only
  (repeat' split) <;> first | (simp; done) | (simp_all; done) | with_reducible rfl

@[simp] theorem State.writeOff_still (s : State) (l : Lane) : (State.writeOff s l).still = s.still := by
  unfold State.writeOff
  try dsimp only
  (repeat' split) <;> first | (simp; done) | (simp_all; done) | with_reducible rfl

@[simp] theorem State.putRecord_still (s : State) (r : ItemRecord) : (State.putRecord s r).still = s.still := by
  unfold State.putRecord
  try dsimp only
  (repeat' split) <;> first | (simp; done) | (simp_all; done) | with_reducible rfl

@[simp] theorem State.removeRecord_still (s : State) (code : Nat) : (State.removeRecord s code).still = s.still := by
  unfold State.removeRecord
  try dsimp only
  (repeat' split) <;> first | (simp; done) | (simp_all; done) | with_reducible rfl

@[simp] theorem State.placePull_still (s : State) (n : Station) : (State.placePull s n).still = s.still := by
  unfold State.placePull
  try dsimp only
  (repeat' split) <;> first | (simp; done) | (simp_all; done) | with_reducible rfl

@[simp] theorem State.setPull_still (s : State) (p : Option Pull) : (State.setPull s p).still = s.still := by
  unfold State.setPull
  try dsimp only
  (repeat' split) <;> first | (simp; done) | (simp_all; done) | with_reducible rfl

@[simp] theorem State.touch_still (s : State) (code : Nat) : (State.touch s code).still = s.still := by
  unfold State.touch
  try dsimp only
  (repeat' split) <;> first | (simp; done) | (simp_all; done) | with_reducible rfl

@[simp] theorem State.releaseIncrease_still (s : State) (r : ItemRecord) : (State.releaseIncrease s r).still = s.still := by
  unfold State.releaseIncrease
  try dsimp only
  (repeat' split) <;> first | (simp; done) | (simp_all; done) | with_reducible rfl

@[simp] theorem State.confirmStation_still (s : State) (r : ItemRecord) (p : Pending) (n : Station) :
    (State.confirmStation s r p n).still = s.still := by
  unfold State.confirmStation
  try dsimp only
  (repeat' split) <;> first | (simp; done) | (simp_all; done) | with_reducible rfl

@[simp] theorem State.applyShown_still (s : State) (item version : Nat) (n : Station) :
    (State.applyShown s item version n).still = s.still := by
  unfold State.applyShown
  try dsimp only
  (repeat' split) <;> first | (simp; done) | (simp_all; done) | with_reducible rfl

@[simp] theorem State.defer_still (s : State) (p : Payload) : (State.defer s p).still = s.still := by
  unfold State.defer
  try dsimp only
  (repeat' split) <;> first | (simp; done) | (simp_all; done) | with_reducible rfl

@[simp] theorem State.placeOwn_still (s : State) (p : Payload) (applied : Bool) :
    (State.placeOwn s p applied).still = s.still := by
  unfold State.placeOwn
  try dsimp only
  (repeat' split) <;> first | (simp; done) | (simp_all; done) | with_reducible rfl

@[simp] theorem State.ownShown_still (s : State) (item version : Nat) : (State.ownShown s item version).still = s.still := by
  unfold State.ownShown
  try dsimp only
  (repeat' split) <;> first | (simp; done) | (simp_all; done) | with_reducible rfl

@[simp] theorem State.setLabel_still (s : State) (l : Label) : (State.setLabel s l).still = s.still := by
  unfold State.setLabel
  try dsimp only
  (repeat' split) <;> first | (simp; done) | (simp_all; done) | with_reducible rfl

@[simp] theorem State.enqueueLabel_still (s : State) (index : Nat) : (State.enqueueLabel s index).still = s.still := by
  unfold State.enqueueLabel
  try dsimp only
  (repeat' split) <;> first | (simp; done) | (simp_all; done) | with_reducible rfl

@[simp] theorem State.unqueueLabel_still (s : State) (index : Nat) : (State.unqueueLabel s index).still = s.still := by
  unfold State.unqueueLabel
  try dsimp only
  (repeat' split) <;> first | (simp; done) | (simp_all; done) | with_reducible rfl

@[simp] theorem State.queueLabel_still (s : State) (l : Label) : (State.queueLabel s l).still = s.still := by
  unfold State.queueLabel
  try dsimp only
  (repeat' split) <;> first | (simp; done) | (simp_all; done) | with_reducible rfl

@[simp] theorem State.settleLabel_still (s : State) (l : Label) : (State.settleLabel s l).still = s.still := by
  unfold State.settleLabel
  try dsimp only
  (repeat' split) <;> first | (simp; done) | (simp_all; done) | with_reducible rfl

@[simp] theorem State.startExchange_still (s : State) : (State.startExchange s).still = s.still := by
  unfold State.startExchange
  try dsimp only
  (repeat' split) <;> first | (simp; done) | (simp_all; done) | with_reducible rfl

@[simp] theorem State.voidExchange_still (s : State) (index : Nat) : (State.voidExchange s index).still = s.still := by
  unfold State.voidExchange
  try dsimp only
  (repeat' split) <;> first | (simp; done) | (simp_all; done) | with_reducible rfl

@[simp] theorem State.confirmCheck_still (s : State) (item : Nat) : (State.confirmCheck s item).still = s.still := by
  unfold State.confirmCheck
  try dsimp only
  (repeat' split) <;> first | (simp; done) | (simp_all; done) | with_reducible rfl

@[simp] theorem State.labelChanged_still (s : State) (l : Label) : (State.labelChanged s l).still = s.still := by
  unfold State.labelChanged
  try dsimp only
  (repeat' split) <;> first | (simp; done) | (simp_all; done) | with_reducible rfl

@[simp] theorem State.itemChanged_still (s : State) (item : Nat) : (State.itemChanged s item).still = s.still := by
  unfold State.itemChanged
  try dsimp only
  (repeat' split) <;> first | (simp; done) | (simp_all; done) | with_reducible rfl

@[simp] theorem State.endVoid_still (s : State) (index : Nat) : (State.endVoid s index).still = s.still := by
  unfold State.endVoid
  try dsimp only
  (repeat' split) <;> first | (simp; done) | (simp_all; done) | with_reducible rfl

@[simp] theorem State.doLabelAck_still (radioId : Nat) (battery : Fin 4) (s : State) :
    (State.doLabelAck radioId battery s).still = s.still := by
  unfold State.doLabelAck
  try dsimp only
  (repeat' split) <;> first | (simp; done) | (simp_all; done) | with_reducible rfl

@[simp] theorem State.labelUnanswered_still (s : State) (l : Label) (changed : Bool) :
    (State.labelUnanswered s l changed).still = s.still := by
  unfold State.labelUnanswered
  try dsimp only
  (repeat' split) <;> first | (simp; done) | (simp_all; done) | with_reducible rfl

@[simp] theorem State.doUpdateTimeout_still (s : State) : (State.doUpdateTimeout s).still = s.still := by
  unfold State.doUpdateTimeout
  try dsimp only
  (repeat' split) <;> first | (simp; done) | (simp_all; done) | with_reducible rfl

@[simp] theorem State.doNotBefore_still (index : Nat) (s : State) : (State.doNotBefore index s).still = s.still := by
  unfold State.doNotBefore
  try dsimp only
  (repeat' split) <;> first | (simp; done) | (simp_all; done) | with_reducible rfl

@[simp] theorem State.readyLabel_still (s : State) (l : Label) : (State.readyLabel s l).still = s.still := by
  unfold State.readyLabel
  try dsimp only
  (repeat' split) <;> first | (simp; done) | (simp_all; done) | with_reducible rfl

@[simp] theorem State.readyPass_still (s : State) : (State.readyPass s).still = s.still := by
  unfold State.readyPass
  try dsimp only
  (repeat' split) <;> first | (simp; done) | (simp_all; done) | with_reducible rfl

@[simp] theorem State.dropRecord_still (s : State) (code : Nat) : (State.dropRecord s code).still = s.still := by
  unfold State.dropRecord
  try dsimp only
  (repeat' split) <;> first | (simp; done) | (simp_all; done) | with_reducible rfl

@[simp] theorem State.applyLeave_still (s : State) (r : ItemRecord) (n : Station) :
    (State.applyLeave s r n).still = s.still := by
  unfold State.applyLeave
  try dsimp only
  (repeat' split) <;> first | (simp; done) | (simp_all; done) | with_reducible rfl

@[simp] theorem State.applyHold_still (s : State) (item : Nat) (n : Station) (join : Bool) :
    (State.applyHold s item n join).still = s.still := by
  unfold State.applyHold
  try dsimp only
  (repeat' split) <;> first | (simp; done) | (simp_all; done) | with_reducible rfl

@[simp] theorem State.ownHold_still (s : State) (item : Nat) (join : Bool) : (State.ownHold s item join).still = s.still := by
  unfold State.ownHold
  try dsimp only
  (repeat' split) <;> first | (simp; done) | (simp_all; done) | with_reducible rfl

@[simp] theorem State.ownOutcome_still (s : State) (f : Frame) (carried : Bool) :
    (State.ownOutcome s f carried).still = s.still := by
  unfold State.ownOutcome
  try dsimp only
  (repeat' split) <;> first | (simp; done) | (simp_all; done) | with_reducible rfl

@[simp] theorem State.flushDeferred_still (s : State) : (State.flushDeferred s).still = s.still := by
  unfold State.flushDeferred
  try dsimp only
  (repeat' split) <;> first | (simp; done) | (simp_all; done) | with_reducible rfl

@[simp] theorem State.markSeen_still (s : State) (version : Nat) : (State.markSeen s version).still = s.still := by
  unfold State.markSeen
  try dsimp only
  (repeat' split) <;> first | (simp; done) | (simp_all; done) | with_reducible rfl

@[simp] theorem State.refuseSet_still (s : State) (p : PriceSet) : (State.refuseSet s p).still = s.still := by
  unfold State.refuseSet
  try dsimp only
  (repeat' split) <;> first | (simp; done) | (simp_all; done) | with_reducible rfl

@[simp] theorem State.setChanged_still (s : State) (p : PriceSet) : (State.setChanged s p).still = s.still := by
  unfold State.setChanged
  try dsimp only
  (repeat' split) <;> first | (simp; done) | (simp_all; done) | with_reducible rfl

@[simp] theorem State.delist_still (s : State) (r : ItemRecord) (p : PriceSet) : (State.delist s r p).still = s.still := by
  unfold State.delist
  try dsimp only
  (repeat' split) <;> first | (simp; done) | (simp_all; done) | with_reducible rfl

@[simp] theorem State.applySet_still (s : State) (p : PriceSet) : (State.applySet s p).still = s.still := by
  unfold State.applySet
  try dsimp only
  (repeat' split) <;> first | (simp; done) | (simp_all; done) | with_reducible rfl

@[simp] theorem State.doWatchExpiry_still (s : State) : (State.doWatchExpiry s).still = s.still := by
  unfold State.doWatchExpiry
  try dsimp only
  (repeat' split) <;> first | (simp; done) | (simp_all; done) | with_reducible rfl

@[simp] theorem State.labelLeft_still (s : State) (item : Nat) : (State.labelLeft s item).still = s.still := by
  unfold State.labelLeft
  try dsimp only
  (repeat' split) <;> first | (simp; done) | (simp_all; done) | with_reducible rfl

@[simp] theorem State.removeLabel_still (s : State) (l : Label) : (State.removeLabel s l).still = s.still := by
  unfold State.removeLabel
  try dsimp only
  (repeat' split) <;> first | (simp; done) | (simp_all; done) | with_reducible rfl

@[simp] theorem State.bindNew_still (r : Request) (radioId item : Nat) (s : State) :
    (State.bindNew r radioId item s).still = s.still := by
  unfold State.bindNew
  try dsimp only
  (repeat' split) <;> first | (simp; done) | (simp_all; done) | with_reducible rfl

@[simp] theorem State.rebound_still (s : State) (l : Label) : (State.rebound s l).still = s.still := by
  unfold State.rebound
  try dsimp only
  (repeat' split) <;> first | (simp; done) | (simp_all; done) | with_reducible rfl

@[simp] theorem State.rebind_still (r : Request) (l : Label) (item : Nat) (s : State) :
    (State.rebind r l item s).still = s.still := by
  unfold State.rebind
  try dsimp only
  (repeat' split) <;> first | (simp; done) | (simp_all; done) | with_reducible rfl

@[simp] theorem State.bindWork_still (r : Request) (radioId item : Nat) (s : State) :
    (State.bindWork r radioId item s).still = s.still := by
  unfold State.bindWork
  try dsimp only
  (repeat' split) <;> first | (simp; done) | (simp_all; done) | with_reducible rfl

@[simp] theorem State.doBind_still (r : Request) (radioId item : Nat) (s : State) :
    (State.doBind r radioId item s).still = s.still := by
  unfold State.doBind
  try dsimp only
  (repeat' split) <;> first | (simp; done) | (simp_all; done) | with_reducible rfl

@[simp] theorem State.unbindWork_still (r : Request) (radioId : Nat) (s : State) :
    (State.unbindWork r radioId s).still = s.still := by
  unfold State.unbindWork
  try dsimp only
  (repeat' split) <;> first | (simp; done) | (simp_all; done) | with_reducible rfl

@[simp] theorem State.doUnbind_still (r : Request) (radioId : Nat) (s : State) :
    (State.doUnbind r radioId s).still = s.still := by
  unfold State.doUnbind
  try dsimp only
  (repeat' split) <;> first | (simp; done) | (simp_all; done) | with_reducible rfl

@[simp] theorem State.releaseWork_still (r : Request) (item : Nat) (s : State) :
    (State.releaseWork r item s).still = s.still := by
  unfold State.releaseWork
  try dsimp only
  (repeat' split) <;> first | (simp; done) | (simp_all; done) | with_reducible rfl

@[simp] theorem State.doRelease_still (r : Request) (item : Nat) (s : State) : (State.doRelease r item s).still = s.still := by
  unfold State.doRelease
  try dsimp only
  (repeat' split) <;> first | (simp; done) | (simp_all; done) | with_reducible rfl

@[simp] theorem State.labelWork_still (r : Request) (radioId : Nat) (s : State) :
    (State.labelWork r radioId s).still = s.still := by
  unfold State.labelWork
  try dsimp only
  (repeat' split) <;> first | (simp; done) | (simp_all; done) | with_reducible rfl

@[simp] theorem State.doLabel_still (r : Request) (radioId : Nat) (s : State) :
    (State.doLabel r radioId s).still = s.still := by
  unfold State.doLabel
  try dsimp only
  (repeat' split) <;> first | (simp; done) | (simp_all; done) | with_reducible rfl

@[simp] theorem State.setServing_still (s : State) (v : Option Serving) : (State.setServing s v).still = s.still := by
  unfold State.setServing
  try dsimp only
  (repeat' split) <;> first | (simp; done) | (simp_all; done) | with_reducible rfl

@[simp] theorem State.placeNext_still (s : State) : (State.placeNext s).still = s.still := by
  unfold State.placeNext
  try dsimp only
  (repeat' split) <;> first | (simp; done) | (simp_all; done) | with_reducible rfl

@[simp] theorem State.busyChunk_still (s : State) (n : Station) : (State.busyChunk s n).still = s.still := by
  unfold State.busyChunk
  try dsimp only
  (repeat' split) <;> first | (simp; done) | (simp_all; done) | with_reducible rfl

@[simp] theorem State.servePull_still (s : State) (n : Station) : (State.servePull s n).still = s.still := by
  unfold State.servePull
  try dsimp only
  (repeat' split) <;> first | (simp; done) | (simp_all; done) | with_reducible rfl

@[simp] theorem State.chunkOutcome_still (s : State) (c : Chunk) (carried : Bool) :
    (State.chunkOutcome s c carried).still = s.still := by
  unfold State.chunkOutcome
  try dsimp only
  (repeat' split) <;> first | (simp; done) | (simp_all; done) | with_reducible rfl

@[simp] theorem State.enterReady_still (s : State) : (State.enterReady s).still = s.still := by
  unfold State.enterReady
  try dsimp only
  (repeat' split) <;> first | (simp; done) | (simp_all; done) | with_reducible rfl

@[simp] theorem State.checkReady_still (s : State) : (State.checkReady s).still = s.still := by
  unfold State.checkReady
  try dsimp only
  (repeat' split) <;> first | (simp; done) | (simp_all; done) | with_reducible rfl

@[simp] theorem State.tryPull_still (s : State) : (State.tryPull s).still = s.still := by
  unfold State.tryPull
  try dsimp only
  (repeat' split) <;> first | (simp; done) | (simp_all; done) | with_reducible rfl

@[simp] theorem State.requestRepair_still (s : State) : (State.requestRepair s).still = s.still := by
  unfold State.requestRepair
  try dsimp only
  (repeat' split) <;> first | (simp; done) | (simp_all; done) | with_reducible rfl

@[simp] theorem State.pullEnded_still (s : State) : (State.pullEnded s).still = s.still := by
  unfold State.pullEnded
  try dsimp only
  (repeat' split) <;> first | (simp; done) | (simp_all; done) | with_reducible rfl

@[simp] theorem State.targetFailed_still (s : State) (p : Pull) : (State.targetFailed s p).still = s.still := by
  unfold State.targetFailed
  try dsimp only
  (repeat' split) <;> first | (simp; done) | (simp_all; done) | with_reducible rfl

@[simp] theorem State.abandonPull_still (s : State) : (State.abandonPull s).still = s.still := by
  unfold State.abandonPull
  try dsimp only
  (repeat' split) <;> first | (simp; done) | (simp_all; done) | with_reducible rfl

@[simp] theorem State.pullOutcome_still (s : State) (dest : Option Station) (carried : Bool) :
    (State.pullOutcome s dest carried).still = s.still := by
  unfold State.pullOutcome
  try dsimp only
  (repeat' split) <;> first | (simp; done) | (simp_all; done) | with_reducible rfl

@[simp] theorem State.doPullTimer_still (s : State) : (State.doPullTimer s).still = s.still := by
  unfold State.doPullTimer
  try dsimp only
  (repeat' split) <;> first | (simp; done) | (simp_all; done) | with_reducible rfl

@[simp] theorem State.peerLeft_still (s : State) (n : Station) : (State.peerLeft s n).still = s.still := by
  unfold State.peerLeft
  try dsimp only
  (repeat' split) <;> first | (simp; done) | (simp_all; done) | with_reducible rfl

@[simp] theorem State.servingLost_still (s : State) (n : Station) : (State.servingLost s n).still = s.still := by
  unfold State.servingLost
  try dsimp only
  (repeat' split) <;> first | (simp; done) | (simp_all; done) | with_reducible rfl

@[simp] theorem State.reconcileOne_still (s : State) (code : Nat) : (State.reconcileOne s code).still = s.still := by
  unfold State.reconcileOne
  try dsimp only
  (repeat' split) <;> first | (simp; done) | (simp_all; done) | with_reducible rfl

@[simp] theorem State.reconcile_still (s : State) : (State.reconcile s).still = s.still := by
  unfold State.reconcile
  dsimp only
  rw [foldl_still _ (fun t i => by split <;> simp)]
  simp

@[simp] theorem State.putSnapshot_still (s : State) (r : ItemRecord) : (State.putSnapshot s r).still = s.still := by
  unfold State.putSnapshot
  try dsimp only
  (repeat' split) <;> first | (simp; done) | (simp_all; done) | with_reducible rfl

@[simp] theorem State.delivered_still (s : State) (code : Nat) : (State.delivered s code).still = s.still := by
  unfold State.delivered
  try dsimp only
  (repeat' split) <;> first | (simp; done) | (simp_all; done) | with_reducible rfl

@[simp] theorem State.takeRecord_still (s : State) (r : ItemRecord) : (State.takeRecord s r).still = s.still := by
  unfold State.takeRecord
  try dsimp only
  (repeat' split) <;> first | (simp; done) | (simp_all; done) | with_reducible rfl

@[simp] theorem State.completePull_still (s : State) (p : Pull) (a : Nat) : (State.completePull s p a).still = s.still := by
  unfold State.completePull
  try dsimp only
  (repeat' split) <;> first | (simp; done) | (simp_all; done) | with_reducible rfl

@[simp] theorem State.chunkTaken_still (s : State) (n : Station) (c : Chunk) : (State.chunkTaken s n c).still = s.still := by
  unfold State.chunkTaken
  try dsimp only
  (repeat' split) <;> first | (simp; done) | (simp_all; done) | with_reducible rfl

@[simp] theorem State.leadHeard_still (s : State) (n : Station) (a : Nat) : (State.leadHeard s n a).still = s.still := by
  unfold State.leadHeard
  try dsimp only
  (repeat' split) <;> first | (simp; done) | (simp_all; done) | with_reducible rfl

@[simp] theorem State.compareDone_still (s : State) (l : Nat) : (State.compareDone s l).still = s.still := by
  unfold State.compareDone
  try dsimp only
  (repeat' split) <;> first | (simp; done) | (simp_all; done) | with_reducible rfl

@[simp] theorem State.handDone_still (s : State) (l : Nat) : (State.handDone s l).still = s.still := by
  unfold State.handDone
  try dsimp only
  (repeat' split) <;> first | (simp; done) | (simp_all; done) | with_reducible rfl

@[simp] theorem State.afterItemTake_still (s : State) : (State.afterItemTake s).still = s.still := by
  unfold State.afterItemTake
  try dsimp only
  (repeat' split) <;> first | (simp; done) | (simp_all; done) | with_reducible rfl

@[simp] theorem State.produceAutha_still (s : State) (origin : Station) (lane : Lane) (basket : Nat) (d : Decision) :
    (State.produceAutha s origin lane basket d).still = s.still := by
  unfold State.produceAutha
  try dsimp only
  (repeat' split) <;> first | (simp; done) | (simp_all; done) | with_reducible rfl

@[simp] theorem State.routerRequest_still (s : State) (origin : Station) (lane : Lane) (basket amount : Nat) :
    (State.routerRequest s origin lane basket amount).still = s.still := by
  unfold State.routerRequest
  try dsimp only
  (repeat' split) <;> first | (simp; done) | (simp_all; done) | with_reducible rfl

@[simp] theorem State.officeAnswer_still (s : State) (tag : Nat) (d : OfficeDecision) :
    (State.officeAnswer s tag d).still = s.still := by
  unfold State.officeAnswer
  try dsimp only
  (repeat' split) <;> first | (simp; done) | (simp_all; done) | with_reducible rfl

@[simp] theorem State.doAuthEntryExpiry_still (tag : Nat) (s : State) : (State.doAuthEntryExpiry tag s).still = s.still := by
  unfold State.doAuthEntryExpiry
  try dsimp only
  (repeat' split) <;> first | (simp; done) | (simp_all; done) | with_reducible rfl

@[simp] theorem State.declineQueued_still (s : State) : (State.declineQueued s).still = s.still := by
  unfold State.declineQueued
  try dsimp only
  (repeat' split) <;> first | (simp; done) | (simp_all; done) | with_reducible rfl

@[simp] theorem State.openAuth_still (s : State) (l : Lane) (amount : Nat) (route : Route) (authq : AuthqState) :
    (State.openAuth s l amount route authq).still = s.still := by
  unfold State.openAuth
  try dsimp only
  (repeat' split) <;> first | (simp; done) | (simp_all; done) | with_reducible rfl

@[simp] theorem State.cardWork_still (r : Request) (amount : Nat) (s : State) :
    (State.cardWork r amount s).still = s.still := by
  unfold State.cardWork
  try dsimp only
  (repeat' split) <;> first | (simp; done) | (simp_all; done) | with_reducible rfl

@[simp] theorem State.doCard_still (r : Request) (amount : Nat) (s : State) : (State.doCard r amount s).still = s.still := by
  unfold State.doCard
  try dsimp only
  (repeat' split) <;> first | (simp; done) | (simp_all; done) | with_reducible rfl

@[simp] theorem State.authqOutcome_still (s : State) (l : Lane) (basket : Nat) (carried : Bool) :
    (State.authqOutcome s l basket carried).still = s.still := by
  unfold State.authqOutcome
  try dsimp only
  (repeat' split) <;> first | (simp; done) | (simp_all; done) | with_reducible rfl

@[simp] theorem State.cancelAuth_still (r : Request) (s : State) : (State.cancelAuth r s).still = s.still := by
  unfold State.cancelAuth
  try dsimp only
  (repeat' split) <;> first | (simp; done) | (simp_all; done) | with_reducible rfl

@[simp] theorem State.cancelBasket_still (r : Request) (s : State) : (State.cancelBasket r s).still = s.still := by
  unfold State.cancelBasket
  try dsimp only
  (repeat' split) <;> first | (simp; done) | (simp_all; done) | with_reducible rfl

@[simp] theorem State.fromAp_still (s : State) (f : State → State) (hw : ∀ t : State, (f t).still = t.still) :
    (State.fromAp s f).still = s.still := by
  unfold State.fromAp
  try dsimp only
  (repeat' split) <;> first | (simp; done) | (simp_all; done) | with_reducible rfl

@[simp] theorem State.setGuest_still (s : State) (i : Fin 64) (e : GuestEntry) : (State.setGuest s i e).still = s.still := by
  unfold State.setGuest
  try dsimp only
  (repeat' split) <;> first | (simp; done) | (simp_all; done) | with_reducible rfl

@[simp] theorem State.countPoliced_still (s : State) : (State.countPoliced s).still = s.still := by
  unfold State.countPoliced
  try dsimp only
  (repeat' split) <;> first | (simp; done) | (simp_all; done) | with_reducible rfl

@[simp] theorem State.removeFlows_still (s : State) (p : GuestFlow → Bool) : (State.removeFlows s p).still = s.still := by
  unfold State.removeFlows
  try dsimp only
  (repeat' split) <;> first | (simp; done) | (simp_all; done) | with_reducible rfl

@[simp] theorem State.doFlowIdle_still (index : Nat) (s : State) : (State.doFlowIdle index s).still = s.still := by
  unfold State.doFlowIdle
  try dsimp only
  (repeat' split) <;> first | (simp; done) | (simp_all; done) | with_reducible rfl

@[simp] theorem State.setFlow_still (s : State) (f : GuestFlow) : (State.setFlow s f).still = s.still := by
  unfold State.setFlow
  try dsimp only
  (repeat' split) <;> first | (simp; done) | (simp_all; done) | with_reducible rfl

@[simp] theorem State.dropGuest_still (s : State) : (State.dropGuest s).still = s.still := by
  unfold State.dropGuest
  try dsimp only
  (repeat' split) <;> first | (simp; done) | (simp_all; done) | with_reducible rfl

@[simp] theorem State.queueGuest_still (s : State) (f : GuestFlow) (data : List Byte) :
    (State.queueGuest s f data).still = s.still := by
  unfold State.queueGuest
  try dsimp only
  (repeat' split) <;> first | (simp; done) | (simp_all; done) | with_reducible rfl

@[simp] theorem State.routeGuest_still (s : State) (slot : Fin 64) (p : GuestPacket) :
    (State.routeGuest s slot p).still = s.still := by
  unfold State.routeGuest
  try dsimp only
  (repeat' split) <;> first | (simp; done) | (simp_all; done) | with_reducible rfl

@[simp] theorem State.endClient_still (s : State) (drop : Bool) (i : Fin 64) : (State.endClient s drop i).still = s.still := by
  unfold State.endClient
  try dsimp only
  (repeat' split) <;> first | (simp; done) | (simp_all; done) | with_reducible rfl

@[simp] theorem State.endGuests_still (s : State) (drop : Bool) : (State.endGuests s drop).still = s.still := by
  unfold State.endGuests
  try dsimp only
  (repeat' split) <;> first | (simp; done) | (simp_all; done) | with_reducible rfl

@[simp] theorem State.endIfClosed_still (s : State) : (State.endIfClosed s).still = s.still := by
  unfold State.endIfClosed
  try dsimp only
  (repeat' split) <;> first | (simp; done) | (simp_all; done) | with_reducible rfl

@[simp] theorem State.doSessionEnd_still (i : Fin 64) (s : State) : (State.doSessionEnd i s).still = s.still := by
  unfold State.doSessionEnd
  try dsimp only
  (repeat' split) <;> first | (simp; done) | (simp_all; done) | with_reducible rfl

@[simp] theorem State.disassocWork_still (address : Nat) (s : State) : (State.disassocWork address s).still = s.still := by
  unfold State.disassocWork
  try dsimp only
  (repeat' split) <;> first | (simp; done) | (simp_all; done) | with_reducible rfl

@[simp] theorem State.doDisassoc_still (address : Nat) (s : State) : (State.doDisassoc address s).still = s.still := by
  unfold State.doDisassoc
  try dsimp only
  (repeat' split) <;> first | (simp; done) | (simp_all; done) | with_reducible rfl

@[simp] theorem State.doApReset_still (s : State) : (State.doApReset s).still = s.still := by
  unfold State.doApReset
  try dsimp only
  (repeat' split) <;> first | (simp; done) | (simp_all; done) | with_reducible rfl

@[simp] theorem State.doStatus_still (s : State) : (State.doStatus s).still = s.still := by
  unfold State.doStatus
  try dsimp only
  (repeat' split) <;> first | (simp; done) | (simp_all; done) | with_reducible rfl

@[simp] theorem State.doGuestBad_still (s : State) : (State.doGuestBad s).still = s.still := rfl

@[simp] theorem State.doApLost_still (s : State) : (State.doApLost s).still = s.still := by
  unfold State.doApLost
  try dsimp only
  (repeat' split) <;> first | (simp; done) | (simp_all; done) | with_reducible rfl

@[simp] theorem State.refuse_still (s : State) (address : Nat) (reason : RefuseReason) :
    (State.refuse s address reason).still = s.still := by
  unfold State.refuse
  try dsimp only
  (repeat' split) <;> first | (simp; done) | (simp_all; done) | with_reducible rfl

@[simp] theorem State.assocWork_still (address : Nat) (s : State) : (State.assocWork address s).still = s.still := by
  unfold State.assocWork
  try dsimp only
  (repeat' split) <;> first | (simp; done) | (simp_all; done) | with_reducible rfl

@[simp] theorem State.doAssoc_still (address : Nat) (s : State) : (State.doAssoc address s).still = s.still := by
  unfold State.doAssoc
  try dsimp only
  (repeat' split) <;> first | (simp; done) | (simp_all; done) | with_reducible rfl

@[simp] theorem State.interceptHit_still (s : State) (i : Fin 64) (hits : Vector Bool 8) :
    (State.interceptHit s i hits).still = s.still := by
  unfold State.interceptHit
  try dsimp only
  (repeat' split) <;> first | (simp; done) | (simp_all; done) | with_reducible rfl

@[simp] theorem State.chargeOut_still (s : State) (i : Fin 64) (p : GuestPacket) :
    (State.chargeOut s i p).still = s.still := by
  unfold State.chargeOut
  try dsimp only
  (repeat' split) <;> first | (simp; done) | (simp_all; done) | with_reducible rfl

@[simp] theorem State.rateTest_still (s : State) (i : Fin 64) (p : GuestPacket) : (State.rateTest s i p).still = s.still := by
  unfold State.rateTest
  try dsimp only
  (repeat' split) <;> first | (simp; done) | (simp_all; done) | with_reducible rfl

@[simp] theorem State.police_still (s : State) (i : Fin 64) (p : GuestPacket) : (State.police s i p).still = s.still := by
  unfold State.police
  try dsimp only
  (repeat' split) <;> first | (simp; done) | (simp_all; done) | with_reducible rfl

@[simp] theorem State.packetOutWork_still (p : GuestPacket) (s : State) : (State.packetOutWork p s).still = s.still := by
  unfold State.packetOutWork
  try dsimp only
  (repeat' split) <;> first | (simp; done) | (simp_all; done) | with_reducible rfl

@[simp] theorem State.doPacketOut_still (p : GuestPacket) (s : State) : (State.doPacketOut p s).still = s.still := by
  unfold State.doPacketOut
  try dsimp only
  (repeat' split) <;> first | (simp; done) | (simp_all; done) | with_reducible rfl

@[simp] theorem State.doRefill_still (s : State) : (State.doRefill s).still = s.still := by
  unfold State.doRefill
  try dsimp only
  (repeat' split) <;> first | (simp; done) | (simp_all; done) | with_reducible rfl

@[simp] theorem State.chargeIn_still (s : State) (f : GuestFlow) (data : List Byte) :
    (State.chargeIn s f data).still = s.still := by
  unfold State.chargeIn
  try dsimp only
  (repeat' split) <;> first | (simp; done) | (simp_all; done) | with_reducible rfl

@[simp] theorem State.packetIn_still (s : State) (port : Nat) (data : List Byte) :
    (State.packetIn s port data).still = s.still := by
  unfold State.packetIn
  try dsimp only
  (repeat' split) <;> first | (simp; done) | (simp_all; done) | with_reducible rfl

@[simp] theorem State.rollGuests_still (s : State) : (State.rollGuests s).still = s.still := by
  unfold State.rollGuests
  try dsimp only
  (repeat' split) <;> first | (simp; done) | (simp_all; done) | with_reducible rfl

@[simp] theorem State.shutGuests_still (s : State) : (State.shutGuests s).still = s.still := by
  unfold State.shutGuests
  try dsimp only
  (repeat' split) <;> first | (simp; done) | (simp_all; done) | with_reducible rfl

@[simp] theorem State.produceNight_still (s : State) (m : NightMsg) : (State.produceNight s m).still = s.still := by
  unfold State.produceNight
  try dsimp only
  (repeat' split) <;> first | (simp; done) | (simp_all; done) | with_reducible rfl

@[simp] theorem State.produceJournal_still (s : State) (n : Station) (p : Payload) :
    (State.produceJournal s n p).still = s.still := by
  unfold State.produceJournal
  try dsimp only
  (repeat' split) <;> first | (simp; done) | (simp_all; done) | with_reducible rfl

@[simp] theorem State.releaseHere_still (s : State) (n : Station) (seq : Nat) : (State.releaseHere s n seq).still = s.still := by
  unfold State.releaseHere
  try dsimp only
  (repeat' split) <;> first | (simp; done) | (simp_all; done) | with_reducible rfl

@[simp] theorem State.releaseThere_still (s : State) (b : Batch) : (State.releaseThere s b).still = s.still := by
  unfold State.releaseThere
  try dsimp only
  (repeat' split) <;> first | (simp; done) | (simp_all; done) | with_reducible rfl

@[simp] theorem State.release_still (s : State) (b : Batch) : (State.release s b).still = s.still := by
  unfold State.release
  try dsimp only
  (repeat' split) <;> first | (simp; done) | (simp_all; done) | with_reducible rfl

@[simp] theorem State.jrelOutcome_still (s : State) (dest : Option Station) (seq : Nat) (carried : Bool) : (State.jrelOutcome s dest seq carried).still = s.still := by
  unfold State.jrelOutcome
  try dsimp only
  (repeat' split) <;> first | (simp; done) | (simp_all; done) | with_reducible rfl

@[simp] theorem State.giveUpBatch_still (s : State) : (State.giveUpBatch s).still = s.still := by
  unfold State.giveUpBatch
  try dsimp only
  (repeat' split) <;> first | (simp; done) | (simp_all; done) | with_reducible rfl

@[simp] theorem State.nightClose_still (s : State) (r : NightResult) : (State.nightClose s r).still = s.still := by
  unfold State.nightClose
  try dsimp only
  (repeat' split) <;> first | (simp; done) | (simp_all; done) | with_reducible rfl

@[simp] theorem State.joinNight_still (x0 : List NightItem) (s : State) : (State.joinNight x0 s).still = s.still := by
  induction x0 generalizing s with
  | nil => rfl
  | cons x rest ih =>
    simp only [State.joinNight]
    split <;> simp [ih]

@[simp] theorem State.zeroCounts_still (s : State) : (State.zeroCounts s).still = s.still := by
  unfold State.zeroCounts
  try dsimp only
  (repeat' split) <;> first | (simp; done) | (simp_all; done) | with_reducible rfl

@[simp] theorem State.reportJoined_still (s : State) (r : Report) (rest : List Report) : (State.reportJoined s r rest).still = s.still := by
  unfold State.reportJoined
  try dsimp only
  (repeat' split) <;> first | (simp; done) | (simp_all; done) | with_reducible rfl

@[simp] theorem State.joinReports_still (x0 : List Report) (s : State) : (State.joinReports x0 s).still = s.still := by
  induction x0 generalizing s with
  | nil => rfl
  | cons x rest ih =>
    simp only [State.joinReports]
    split <;> simp [ih]

@[simp] theorem State.joinAll_still (s : State) : (State.joinAll s).still = s.still := by
  unfold State.joinAll
  try dsimp only
  (repeat' split) <;> first | (simp; done) | (simp_all; done) | with_reducible rfl

@[simp] theorem State.pump_still (s : State) : (State.pump s).still = s.still := by
  unfold State.pump
  try dsimp only
  (repeat' split) <;> first | (simp; done) | (simp_all; done) | with_reducible rfl

@[simp] theorem State.enterReport_still (s : State) : (State.enterReport s).still = s.still := by
  unfold State.enterReport
  try dsimp only
  (repeat' split) <;> first | (simp; done) | (simp_all; done) | with_reducible rfl

@[simp] theorem State.enterTime_still (s : State) : (State.enterTime s).still = s.still := by
  unfold State.enterTime
  try dsimp only
  (repeat' split) <;> first | (simp; done) | (simp_all; done) | with_reducible rfl

@[simp] theorem State.checkDone_still (s : State) : (State.checkDone s).still = s.still := by
  unfold State.checkDone
  try dsimp only
  (repeat' split) <;> first | (simp; done) | (simp_all; done) | with_reducible rfl

@[simp] theorem State.checkPrices_still (s : State) : (State.checkPrices s).still = s.still := by
  unfold State.checkPrices
  try dsimp only
  (repeat' split) <;> first | (simp; done) | (simp_all; done) | with_reducible rfl

@[simp] theorem State.enterPrices_still (s : State) : (State.enterPrices s).still = s.still := by
  unfold State.enterPrices
  try dsimp only
  (repeat' split) <;> first | (simp; done) | (simp_all; done) | with_reducible rfl

@[simp] theorem State.settlePrices_still (s : State) (complete : Bool) : (State.settlePrices s complete).still = s.still := by
  unfold State.settlePrices
  try dsimp only
  (repeat' split) <;> first | (simp; done) | (simp_all; done) | with_reducible rfl

@[simp] theorem State.cutRest_still (s : State) (ns : List Station) : (State.cutRest s ns).still = s.still := by
  unfold State.cutRest
  exact foldl_still _ (fun t n => by simp) _ _

@[simp] theorem State.drainEnd_still (s : State) : (State.drainEnd s).still = s.still := by
  unfold State.drainEnd
  try dsimp only
  (repeat' split) <;> first | (simp; done) | (simp_all; done) | with_reducible rfl

@[simp] theorem State.dayDrainEnd_still (s : State) : (State.dayDrainEnd s).still = s.still := by
  unfold State.dayDrainEnd
  try dsimp only
  (repeat' split) <;> first | (simp; done) | (simp_all; done) | with_reducible rfl

@[simp] theorem State.newBatch_still (s : State) (n : Station) (phase : BatchPhase) (collected : List Collected) :
    (State.newBatch s n phase collected).still = s.still := by
  unfold State.newBatch
  try dsimp only
  (repeat' split) <;> first | (simp; done) | (simp_all; done) | with_reducible rfl

@[simp] theorem State.putBatch_still (s : State) (n : Station) (cs : List Collected) :
    (State.putBatch s n cs).still = s.still := by
  unfold State.putBatch
  try dsimp only
  (repeat' split) <;> first | (simp; done) | (simp_all; done) | with_reducible rfl

@[simp] theorem State.beginBatch_still (s : State) (n : Station) (t : State) (h : State.beginBatch s n = some t) :
    t.still = s.still := by
  unfold State.beginBatch at h
  split at h
  · cases h; simp
  · split at h
    · dsimp only at h
      split at h
      · cases h
      · cases h; simp
    · cases h; simp

@[simp] theorem State.walkOn_still (x0 : List Station) (s : State) : (State.walkOn x0 s).still = s.still := by
  induction x0 generalizing s with
  | nil => rfl
  | cons n rest ih =>
    simp only [State.walkOn]
    split
    · split
      · next h => simpa using State.beginBatch_still _ _ _ h
      · simp [ih]
    · rw [ih]; split <;> simp

@[simp] theorem State.walkDone_still (s : State) : (State.walkDone s).still = s.still := by
  unfold State.walkDone
  try dsimp only
  (repeat' split) <;> first | (simp; done) | (simp_all; done) | with_reducible rfl

@[simp] theorem State.finishStation_still (s : State) (n : Station) (o : DrainOutcome) :
    (State.finishStation s n o).still = s.still := by
  unfold State.finishStation
  try dsimp only
  (repeat' split) <;> first | (simp; done) | (simp_all; done) | with_reducible rfl

@[simp] theorem State.nextBatch_still (s : State) (n : Station) (lost : Bool) :
    (State.nextBatch s n lost).still = s.still := by
  unfold State.nextBatch
  repeat (first | (split; · simp))
  split
  · next h => exact State.beginBatch_still _ _ _ h
  · simp

@[simp] theorem State.failedAttempt_still (s : State) (b : Batch) : (State.failedAttempt s b).still = s.still := by
  unfold State.failedAttempt
  try dsimp only
  (repeat' split) <;> first | (simp; done) | (simp_all; done) | with_reducible rfl

@[simp] theorem State.releaseBatch_still (s : State) (b : Batch) : (State.releaseBatch s b).still = s.still := by
  unfold State.releaseBatch
  try dsimp only
  (repeat' split) <;> first | (simp; done) | (simp_all; done) | with_reducible rfl

@[simp] theorem State.collectionEnd_still (s : State) (b : Batch) : (State.collectionEnd s b).still = s.still := by
  unfold State.collectionEnd
  try dsimp only
  (repeat' split) <;> first | (simp; done) | (simp_all; done) | with_reducible rfl

@[simp] theorem State.firstShown_still (s : State) (b : Batch) (g : Jseg) : (State.firstShown s b g).still = s.still := by
  unfold State.firstShown
  split <;> simp

@[simp] theorem State.collect_still (s : State) (n : Station) (g : Jseg) : (State.collect s n g).still = s.still := by
  unfold State.collect
  try dsimp only
  (repeat' split) <;> first | (simp; done) | (simp_all; done) | with_reducible rfl

@[simp] theorem State.jpullOutcome_still (s : State) (dest : Option Station) (carried : Bool) :
    (State.jpullOutcome s dest carried).still = s.still := by
  unfold State.jpullOutcome
  try dsimp only
  (repeat' split) <;> first | (simp; done) | (simp_all; done) | with_reducible rfl

@[simp] theorem State.targetAbsent_still (s : State) (n : Station) : (State.targetAbsent s n).still = s.still := by
  unfold State.targetAbsent
  try dsimp only
  (repeat' split) <;> first | (simp; done) | (simp_all; done) | with_reducible rfl

@[simp] theorem State.batchResume_still (s : State) : (State.batchResume s).still = s.still := by
  unfold State.batchResume
  try dsimp only
  (repeat' split) <;> first | (simp; done) | (simp_all; done) | with_reducible rfl

@[simp] theorem State.batchLinkLost_still (s : State) : (State.batchLinkLost s).still = s.still := by
  unfold State.batchLinkLost
  try dsimp only
  (repeat' split) <;> first | (simp; done) | (simp_all; done) | with_reducible rfl

@[simp] theorem State.connectEnd_still (s : State) : (State.connectEnd s).still = s.still := by
  unfold State.connectEnd
  try dsimp only
  (repeat' split) <;> first | (simp; done) | (simp_all; done) | with_reducible rfl

@[simp] theorem State.segmentExpiry_still (s : State) : (State.segmentExpiry s).still = s.still := by
  unfold State.segmentExpiry
  try dsimp only
  (repeat' split) <;> first | (simp; done) | (simp_all; done) | with_reducible rfl

@[simp] theorem State.takenExpiry_still (s : State) : (State.takenExpiry s).still = s.still := by
  unfold State.takenExpiry
  try dsimp only
  (repeat' split) <;> first | (simp; done) | (simp_all; done) | with_reducible rfl

@[simp] theorem State.jtaken_still (s : State) (station seq : Nat) : (State.jtaken s station seq).still = s.still := by
  unfold State.jtaken
  try dsimp only
  (repeat' split) <;> first | (simp; done) | (simp_all; done) | with_reducible rfl

@[simp] theorem State.beginDayDrain_still (s : State) : (State.beginDayDrain s).still = s.still := by
  unfold State.beginDayDrain
  try dsimp only
  (repeat' split) <;> first | (simp; done) | (simp_all; done) | with_reducible rfl

@[simp] theorem State.testDayDrainAt_still (s : State) (second : Nat) : (State.testDayDrainAt s second).still = s.still := by
  unfold State.testDayDrainAt
  try dsimp only
  (repeat' split) <;> first | (simp; done) | (simp_all; done) | with_reducible rfl

@[simp] theorem State.testDayDrain_still (s : State) : (State.testDayDrain s).still = s.still := by
  unfold State.testDayDrain
  try dsimp only
  (repeat' split) <;> first | (simp; done) | (simp_all; done) | with_reducible rfl

@[simp] theorem State.settle_still (s : State) : (State.settle s).still = s.still := by
  unfold State.settle
  try dsimp only
  (repeat' split) <;> first | (simp; done) | (simp_all; done) | with_reducible rfl

@[simp] theorem State.doClose_still (r : Request) (s : State) : (State.doClose r s).still = s.still := by
  unfold State.doClose
  try dsimp only
  (repeat' split) <;> first | (simp; done) | (simp_all; done) | with_reducible rfl

@[simp] theorem State.doCancel_still (r : Request) (s : State) : (State.doCancel r s).still = s.still := by
  unfold State.doCancel
  try dsimp only
  (repeat' split) <;> first | (simp; done) | (simp_all; done) | with_reducible rfl

@[simp] theorem State.doLaneReset_still (l : Lane) (s : State) : (State.doLaneReset l s).still = s.still := by
  unfold State.doLaneReset
  try dsimp only
  (repeat' split) <;> first | (simp; done) | (simp_all; done) | with_reducible rfl

@[simp] theorem State.claim_still (s : State) : (State.claim s).still = s.still := by
  unfold State.claim
  try dsimp only
  (repeat' split) <;> first | (simp; done) | (simp_all; done) | with_reducible rfl

@[simp] theorem State.takeover_still (s : State) : (State.takeover s).still = s.still := by
  unfold State.takeover
  try dsimp only
  (repeat' split) <;> first | (simp; done) | (simp_all; done) | with_reducible rfl

@[simp] theorem State.follow_still (s : State) (exchange : Option Station) : (State.follow s exchange).still = s.still := by
  unfold State.follow
  try dsimp only
  (repeat' split) <;> first | (simp; done) | (simp_all; done) | with_reducible rfl

@[simp] theorem State.losesExchange_still (s : State) : (State.losesExchange s).still = s.still := by
  unfold State.losesExchange
  try dsimp only
  (repeat' split) <;> first | (simp; done) | (simp_all; done) | with_reducible rfl

@[simp] theorem State.yield_still (s : State) (winner : Option Station) : (State.yield s winner).still = s.still := by
  unfold State.yield
  try dsimp only
  (repeat' split) <;> first | (simp; done) | (simp_all; done) | with_reducible rfl

@[simp] theorem State.meetRival_still (s : State) (n : Station) : (State.meetRival s n).still = s.still := by
  unfold State.meetRival
  try dsimp only
  (repeat' split) <;> first | (simp; done) | (simp_all; done) | with_reducible rfl

@[simp] theorem State.nightIdle_still (s : State) : (State.nightIdle s).still = s.still := by
  unfold State.nightIdle
  try dsimp only
  (repeat' split) <;> first | (simp; done) | (simp_all; done) | with_reducible rfl

@[simp] theorem State.windowBegins_still (s : State) (exchange : Option Station) (d1 : Bool) :
    (State.windowBegins s exchange d1).still = s.still := by
  unfold State.windowBegins
  try dsimp only
  (repeat' split) <;> first | (simp; done) | (simp_all; done) | with_reducible rfl

@[simp] theorem State.reachOpen_still (s : State) : (State.reachOpen s).still = s.still := by
  unfold State.reachOpen
  try dsimp only
  (repeat' split) <;> first | (simp; done) | (simp_all; done) | with_reducible rfl

@[simp] theorem State.openLate_still (s : State) : (State.openLate s).still = s.still := by
  unfold State.openLate
  try dsimp only
  (repeat' split) <;> first | (simp; done) | (simp_all; done) | with_reducible rfl

@[simp] theorem State.openHeld_still (s : State) (n : Station) : (State.openHeld s n).still = s.still := by
  unfold State.openHeld
  try dsimp only
  (repeat' split) <;> first | (simp; done) | (simp_all; done) | with_reducible rfl

@[simp] theorem State.claimExpiry_still (s : State) : (State.claimExpiry s).still = s.still := by
  unfold State.claimExpiry
  try dsimp only
  (repeat' split) <;> first | (simp; done) | (simp_all; done) | with_reducible rfl

@[simp] theorem State.reachD1_still (s : State) : (State.reachD1 s).still = s.still := by
  unfold State.reachD1
  try dsimp only
  (repeat' split) <;> first | (simp; done) | (simp_all; done) | with_reducible rfl

@[simp] theorem State.failReport_still (s : State) : (State.failReport s).still = s.still := by
  unfold State.failReport
  try dsimp only
  (repeat' split) <;> first | (simp; done) | (simp_all; done) | with_reducible rfl

@[simp] theorem State.reachD2_still (s : State) : (State.reachD2 s).still = s.still := by
  unfold State.reachD2
  try dsimp only
  (repeat' split) <;> first | (simp; done) | (simp_all; done) | with_reducible rfl

@[simp] theorem State.claimTaken_still (s : State) (n : Station) : (State.claimTaken s n).still = s.still := by
  unfold State.claimTaken
  try dsimp only
  (repeat' split) <;> first | (simp; done) | (simp_all; done) | with_reducible rfl

@[simp] theorem State.heldTaken_still (s : State) (n : Station) : (State.heldTaken s n).still = s.still := by
  unfold State.heldTaken
  try dsimp only
  (repeat' split) <;> first | (simp; done) | (simp_all; done) | with_reducible rfl

@[simp] theorem State.claimerFollows_still (s : State) (n : Station) : (State.claimerFollows s n).still = s.still := by
  unfold State.claimerFollows
  try dsimp only
  (repeat' split) <;> first | (simp; done) | (simp_all; done) | with_reducible rfl

@[simp] theorem State.doneTaken_still (s : State) (n : Station) (l : Nat) : (State.doneTaken s n l).still = s.still := by
  unfold State.doneTaken
  try dsimp only
  (repeat' split) <;> first | (simp; done) | (simp_all; done) | with_reducible rfl

@[simp] theorem State.closedTaken_still (s : State) (r : NightResult) : (State.closedTaken s r).still = s.still := by
  unfold State.closedTaken
  try dsimp only
  (repeat' split) <;> first | (simp; done) | (simp_all; done) | with_reducible rfl

@[simp] theorem State.closedFrom_still (s : State) (n : Station) (r : NightResult) :
    (State.closedFrom s n r).still = s.still := by
  unfold State.closedFrom
  try dsimp only
  (repeat' split) <;> first | (simp; done) | (simp_all; done) | with_reducible rfl

@[simp] theorem State.exchangeHeard_still (s : State) (n : Station) : (State.exchangeHeard s n).still = s.still := by
  unfold State.exchangeHeard
  try dsimp only
  (repeat' split) <;> first | (simp; done) | (simp_all; done) | with_reducible rfl

@[simp] theorem State.nightLinkUp_still (s : State) : (State.nightLinkUp s).still = s.still := by
  unfold State.nightLinkUp
  try dsimp only
  (repeat' split) <;> first | (simp; done) | (simp_all; done) | with_reducible rfl

@[simp] theorem State.nightAbsent_still (s : State) (n : Station) : (State.nightAbsent s n).still = s.still := by
  unfold State.nightAbsent
  try dsimp only
  (repeat' split) <;> first | (simp; done) | (simp_all; done) | with_reducible rfl

@[simp] theorem State.nightSilenced_still (s : State) : (State.nightSilenced s).still = s.still := by
  unfold State.nightSilenced
  try dsimp only
  (repeat' split) <;> first | (simp; done) | (simp_all; done) | with_reducible rfl

@[simp] theorem State.hoursChanged_still (s : State) : (State.hoursChanged s).still = s.still := by
  unfold State.hoursChanged
  try dsimp only
  (repeat' split) <;> first | (simp; done) | (simp_all; done) | with_reducible rfl

@[simp] theorem State.hoursLeft_still (s : State) : (State.hoursLeft s).still = s.still := by
  unfold State.hoursLeft
  try dsimp only
  (repeat' split) <;> first | (simp; done) | (simp_all; done) | with_reducible rfl

@[simp] theorem State.dayRollEffects_still (s : State) : (State.dayRollEffects s).still = s.still := by
  unfold State.dayRollEffects
  try dsimp only
  (repeat' split) <;> first | (simp; done) | (simp_all; done) | with_reducible rfl

@[simp] theorem State.hoursEntered_still (s : State) : (State.hoursEntered s).still = s.still := by
  unfold State.hoursEntered
  try dsimp only
  (repeat' split) <;> first | (simp; done) | (simp_all; done) | with_reducible rfl

@[simp] theorem State.openPassed_still (s : State) : (State.openPassed s).still = s.still := by
  unfold State.openPassed
  try dsimp only
  (repeat' split) <;> first | (simp; done) | (simp_all; done) | with_reducible rfl

@[simp] theorem State.d2Passed_still (s : State) : (State.d2Passed s).still = s.still := by
  unfold State.d2Passed
  try dsimp only
  (repeat' split) <;> first | (simp; done) | (simp_all; done) | with_reducible rfl

@[simp] theorem State.timeReached_still (s : State) (x0 : TimeEvent) : (State.timeReached s x0).still = s.still := by
  unfold State.timeReached
  try dsimp only
  (repeat' split) <;> first | (simp; done) | (simp_all; done) | with_reducible rfl

@[simp] theorem State.putTime_still (s : State) (day second : Nat) : (State.putTime s day second).still = s.still := by
  unfold State.putTime
  try dsimp only
  (repeat' split) <;> first | (simp; done) | (simp_all; done) | with_reducible rfl

@[simp] theorem State.becomeValid_still (s : State) (day second : Nat) : (State.becomeValid s day second).still = s.still := by
  unfold State.becomeValid
  try dsimp only
  (repeat' split) <;> first | (simp; done) | (simp_all; done) | with_reducible rfl

@[simp] theorem State.setClock_still (s : State) (day second : Nat) : (State.setClock s day second).still = s.still := by
  unfold State.setClock
  try dsimp only
  (repeat' split) <;> first | (simp; done) | (simp_all; done) | with_reducible rfl

@[simp] theorem State.adoptClock_still (s : State) (b : Beacon) : (State.adoptClock s b).still = s.still := by
  unfold State.adoptClock
  try dsimp only
  (repeat' split) <;> first | (simp; done) | (simp_all; done) | with_reducible rfl

@[simp] theorem State.doDayRoll_still (s : State) : (State.doDayRoll s).still = s.still := by
  unfold State.doDayRoll
  try dsimp only
  (repeat' split) <;> first | (simp; done) | (simp_all; done) | with_reducible rfl

@[simp] theorem State.doWindowOpen_still (s : State) : (State.doWindowOpen s).still = s.still := by
  unfold State.doWindowOpen
  try dsimp only
  (repeat' split) <;> first | (simp; done) | (simp_all; done) | with_reducible rfl

@[simp] theorem State.doDeadline1_still (s : State) : (State.doDeadline1 s).still = s.still := by
  unfold State.doDeadline1
  try dsimp only
  (repeat' split) <;> first | (simp; done) | (simp_all; done) | with_reducible rfl

@[simp] theorem State.doDeadline2_still (s : State) : (State.doDeadline2 s).still = s.still := by
  unfold State.doDeadline2
  try dsimp only
  (repeat' split) <;> first | (simp; done) | (simp_all; done) | with_reducible rfl

@[simp] theorem State.doHoursEdge_still (s : State) : (State.doHoursEdge s).still = s.still := by
  unfold State.doHoursEdge
  try dsimp only
  (repeat' split) <;> first | (simp; done) | (simp_all; done) | with_reducible rfl

@[simp] theorem State.timeTaken_still (s : State) (n : Station) (day second : Nat) :
    (State.timeTaken s n day second).still = s.still := by
  unfold State.timeTaken
  try dsimp only
  (repeat' split) <;> first | (simp; done) | (simp_all; done) | with_reducible rfl

@[simp] theorem State.officeTime_still (s : State) (day second : Nat) : (State.officeTime s day second).still = s.still := by
  unfold State.officeTime
  try dsimp only
  (repeat' split) <;> first | (simp; done) | (simp_all; done) | with_reducible rfl

@[simp] theorem State.timeExpiry_still (s : State) : (State.timeExpiry s).still = s.still := by
  unfold State.timeExpiry
  try dsimp only
  (repeat' split) <;> first | (simp; done) | (simp_all; done) | with_reducible rfl

@[simp] theorem State.recalcGateway_still (s : State) : (State.recalcGateway s).still = s.still := by
  unfold State.recalcGateway
  try dsimp only
  (repeat' split) <;> first | (simp; done) | (simp_all; done) | with_reducible rfl

@[simp] theorem State.rosterRecalc_still (s : State) : (State.rosterRecalc s).still = s.still := by
  unfold State.rosterRecalc
  try dsimp only
  (repeat' split) <;> first | (simp; done) | (simp_all; done) | with_reducible rfl

@[simp] theorem State.putBeacon_still (s : State) : (State.putBeacon s).still = s.still := by
  unfold State.putBeacon
  try dsimp only
  (repeat' split) <;> first | (simp; done) | (simp_all; done) | with_reducible rfl

@[simp] theorem State.doBeaconDue_still (s : State) : (State.doBeaconDue s).still = s.still := by
  unfold State.doBeaconDue
  try dsimp only
  (repeat' split) <;> first | (simp; done) | (simp_all; done) | with_reducible rfl

@[simp] theorem State.keptBeacon_still (s : State) : (State.keptBeacon s).still = s.still := by
  unfold State.keptBeacon
  try dsimp only
  (repeat' split) <;> first | (simp; done) | (simp_all; done) | with_reducible rfl

@[simp] theorem State.becamePresent_still (s : State) : (State.becamePresent s).still = s.still := by
  unfold State.becamePresent
  try dsimp only
  (repeat' split) <;> first | (simp; done) | (simp_all; done) | with_reducible rfl

@[simp] theorem State.pullerAbsent_still (s : State) (n : Station) : (State.pullerAbsent s n).still = s.still := by
  unfold State.pullerAbsent
  try dsimp only
  (repeat' split) <;> first | (simp; done) | (simp_all; done) | with_reducible rfl

@[simp] theorem State.doLineRest_still (s : State) : (State.doLineRest s).still = s.still := by
  unfold State.doLineRest
  try dsimp only
  (repeat' split) <;> first | (simp; done) | (simp_all; done) | with_reducible rfl

@[simp] theorem State.report_still (s : State) (f : Frame) (carried : Bool) : (State.report s f carried).still = s.still := by
  unfold State.report
  try dsimp only
  (repeat' split) <;> first | (simp; done) | (simp_all; done) | with_reducible rfl

@[simp] theorem State.silenceDraft_still (s : State) (x0 : Draft) : (State.silenceDraft s x0).still = s.still := by
  unfold State.silenceDraft
  try dsimp only
  (repeat' split) <;> first | (simp; done) | (simp_all; done) | with_reducible rfl

@[simp] theorem State.endSlot_still (s : State) (i : Fin 11) (f : Frame) (u : Nat) (w : Bool) (a : Attempt) :
    (State.endSlot s i f u w a).still = s.still := by
  unfold State.endSlot
  try dsimp only
  (repeat' split) <;> first | (simp; done) | (simp_all; done) | with_reducible rfl

@[simp] theorem State.inboxLost_still (s : State) : (State.inboxLost s).still = s.still := by
  unfold State.inboxLost
  try dsimp only
  (repeat' split) <;> first | (simp; done) | (simp_all; done) | with_reducible rfl

@[simp] theorem State.windows_still (s : State) (good : Bool) : (State.windows s good).still = s.still := by
  unfold State.windows
  try dsimp only
  (repeat' split) <;> first | (simp; done) | (simp_all; done) | with_reducible rfl

@[simp] theorem State.fromCarrier_still (s : State) (f : State → State) (hw : ∀ t : State, (f t).still = t.still) :
    (State.fromCarrier s f).still = s.still := by
  unfold State.fromCarrier
  try dsimp only
  (repeat' split) <;> first | (simp; done) | (simp_all; done) | with_reducible rfl

@[simp] theorem State.linkDown_still (s : State) : (State.linkDown s).still = s.still := by
  unfold State.linkDown
  try dsimp only
  (repeat' split) <;> first | (simp; done) | (simp_all; done) | with_reducible rfl

@[simp] theorem State.linkRise_still (s : State) : (State.linkRise s).still = s.still := by
  unfold State.linkRise
  try dsimp only
  (repeat' split) <;> first | (simp; done) | (simp_all; done) | with_reducible rfl

@[simp] theorem State.doLink_still (up : Bool) (s : State) : (State.doLink up s).still = s.still := by
  unfold State.doLink
  refine State.fromCarrier_still _ _ (fun t => ?_)
  (repeat' split) <;> simp

@[simp] theorem State.doPresenceLost_still (s : State) : (State.doPresenceLost s).still = s.still := by
  unfold State.doPresenceLost
  try dsimp only
  (repeat' split) <;> first | (simp; done) | (simp_all; done) | with_reducible rfl

@[simp] theorem State.doCarrierFree_still (s : State) : (State.doCarrierFree s).still = s.still := by
  unfold State.doCarrierFree
  try dsimp only
  (repeat' split) <;> first | (simp; done) | (simp_all; done) | with_reducible rfl

@[simp] theorem State.countMalformed_still (s : State) : (State.countMalformed s).still = s.still := by
  unfold State.countMalformed
  simp

@[simp] theorem State.doMalformed_still (s : State) : (State.doMalformed s).still = s.still := by
  unfold State.doMalformed
  try dsimp only
  (repeat' split) <;> first | (simp; done) | (simp_all; done) | with_reducible rfl

@[simp] theorem State.doOfficeAns_still (tag : Nat) (d : OfficeDecision) (s : State) :
    (State.doOfficeAns tag d s).still = s.still := by
  unfold State.doOfficeAns
  try dsimp only
  (repeat' split) <;> first | (simp; done) | (simp_all; done) | with_reducible rfl

@[simp] theorem State.doPacketIn_still (port : Nat) (data : List Byte) (s : State) :
    (State.doPacketIn port data s).still = s.still := by
  unfold State.doPacketIn
  try dsimp only
  (repeat' split) <;> first | (simp; done) | (simp_all; done) | with_reducible rfl

@[simp] theorem State.doJtaken_still (station seq : Nat) (s : State) : (State.doJtaken station seq s).still = s.still := by
  unfold State.doJtaken
  try dsimp only
  (repeat' split) <;> first | (simp; done) | (simp_all; done) | with_reducible rfl

@[simp] theorem State.batchRecTaken_still (s : State) (p : PriceSet) : (State.batchRecTaken s p).still = s.still := by
  unfold State.batchRecTaken
  try dsimp only
  (repeat' split) <;> first | (simp; done) | (simp_all; done) | with_reducible rfl

@[simp] theorem State.doBatchRec_still (p : PriceSet) (s : State) : (State.doBatchRec p s).still = s.still := by
  unfold State.doBatchRec
  try dsimp only
  (repeat' split) <;> first | (simp; done) | (simp_all; done) | with_reducible rfl

@[simp] theorem State.batchEndTaken_still (s : State) (l : Nat) : (State.batchEndTaken s l).still = s.still := by
  unfold State.batchEndTaken
  try dsimp only
  (repeat' split) <;> first | (simp; done) | (simp_all; done) | with_reducible rfl

@[simp] theorem State.doBatchEnd_still (l : Nat) (s : State) : (State.doBatchEnd l s).still = s.still := by
  unfold State.doBatchEnd
  try dsimp only
  (repeat' split) <;> first | (simp; done) | (simp_all; done) | with_reducible rfl

@[simp] theorem State.stallExpiry_still (s : State) : (State.stallExpiry s).still = s.still := by
  unfold State.stallExpiry
  try dsimp only
  (repeat' split) <;> first | (simp; done) | (simp_all; done) | with_reducible rfl

@[simp] theorem State.doOfficeTime_still (day second : Nat) (s : State) :
    (State.doOfficeTime day second s).still = s.still := by
  unfold State.doOfficeTime
  try dsimp only
  (repeat' split) <;> first | (simp; done) | (simp_all; done) | with_reducible rfl

@[simp] theorem State.lostNote_still (s : State) (l : Lane) : (State.lostNote s l).still = s.still := by
  unfold State.lostNote
  try dsimp only
  (repeat' split) <;> first | (simp; done) | (simp_all; done) | with_reducible rfl

@[simp] theorem State.enterListen_still (s : State) : (State.enterListen s).still = s.still := by
  unfold State.enterListen
  try dsimp only
  (repeat' split) <;> first | (simp; done) | (simp_all; done) | with_reducible rfl

@[simp] theorem State.doListenExpiry_still (s : State) : (State.doListenExpiry s).still = s.still := by
  unfold State.doListenExpiry
  try dsimp only
  (repeat' split) <;> first | (simp; done) | (simp_all; done) | with_reducible rfl

@[simp] theorem State.clearFaults_still (s : State) : (State.clearFaults s).still = s.still := by
  unfold State.clearFaults
  try dsimp only
  (repeat' split) <;> first | (simp; done) | (simp_all; done) | with_reducible rfl

@[simp] theorem State.raiseLevels_still (s : State) : (State.raiseLevels s).still = s.still := by
  unfold State.raiseLevels
  try dsimp only
  (repeat' split) <;> first | (simp; done) | (simp_all; done) | with_reducible rfl

@[simp] theorem State.clearWork_still (r : Request) (s : State) : (State.clearWork r s).still = s.still := by
  unfold State.clearWork
  try dsimp only
  (repeat' split) <;> first | (simp; done) | (simp_all; done) | with_reducible rfl

@[simp] theorem State.doClear_still (r : Request) (s : State) : (State.doClear r s).still = s.still := by
  unfold State.doClear
  try dsimp only
  (repeat' split) <;> first | (simp; done) | (simp_all; done) | with_reducible rfl

@[simp] theorem State.doRestEnd_still (s : State) : (State.doRestEnd s).still = s.still := by
  unfold State.doRestEnd
  try dsimp only
  (repeat' split) <;> first | (simp; done) | (simp_all; done) | with_reducible rfl

end Sys2Proof.Machine
end

