-- ==== Sys2Proof/Machine/Ports.lean ====
section
/-! DEFINITION. The byte layouts of the lane, uplink and guest ports (sections 11.4 and 11.5): what command a frame spells,
and the bytes of an answer, of an item for the carrier unit and of a message to the access point. -/

namespace Sys2Proof.Machine

/-! ## Lane requests (R189, Table 11-7) -/

/-- The parameter length of a request kind; none for a kind absent from Table 11-7. -/
def requestParams : Nat → Option Nat
  | 1 => some 0 | 2 => some 5 | 3 => some 6 | 4 => some 1 | 5 => some 4 | 6 => some 0 | 7 => some 0 | 8 => some 4
  | 9 => some 4 | 10 => some 0 | 11 => some 0 | 20 => some 8 | 21 => some 4 | 22 => some 4 | 23 => some 4 | 24 => some 0
  | _ => none

/-- The request of a known kind with its parameter bytes. -/
def requestOf (r : Request) (kind : Nat) (ps : List Byte) : Instr :=
  match kind with
  | 1 => .openBasket r
  | 2 => .scan r (field ps 0 4) (field ps 4 1)
  | 3 => .weigh r (field ps 0 4) (field ps 4 2)
  | 4 => .voidLine r (field ps 0 1)
  | 5 => .ask r (field ps 0 4)
  | 6 => .total r
  | 7 => .resume r
  | 8 => .cash r (field ps 0 4)
  | 9 => .card r (field ps 0 4)
  | 10 => .cancel r
  | 11 => .close r
  | 20 => .bind r (field ps 0 4) (field ps 4 4)
  | 21 => .unbind r (field ps 0 4)
  | 22 => .release r (field ps 0 4)
  | 23 => .label r (field ps 0 4)
  | 24 => .clear r
  | _ => .unknownRequest r.lane r.number

/-- The command a request frame spells, from its length byte to its checksum (R68, R70, R189). A kind absent from Table 11-7
is held to no length; in a frame too short for a request number it is answered under number 0, and a frame of length 0, which
has no kind, is bad whatever its checksum (DESIGN CHOICE, notes/assumptions/59.md). -/
def laneCommand (lane : Lane) (frame : List Byte) : Instr :=
  let len := field frame 0 1
  if len = 0 || frame.length ≠ len + 2 || byteSum frame ≠ 0#8 then .laneFrameBad lane
  else
    let kind := field frame 1 1
    let r : Request := { lane := lane, confirm := field frame 2 1, number := field frame 3 1 }
    match requestParams kind with
    | none => .unknownRequest lane (if len < 3 then 0 else r.number)
    | some n => if len = 3 + n then requestOf r kind ((frame.drop 4).take n) else .laneFrameBad lane

/-- The whole frames in what a lane port hears, each from its length byte on: bytes outside a frame are discarded until hex 7E
(R189). Every frame takes bytes, so as many rounds as there are bytes find them all. -/
def laneFrames : Nat → List Byte → List (List Byte)
  | 0, _ => []
  | fuel + 1, bs =>
    match bs.dropWhile (fun b => b ≠ 0x7E#8) with
    | [] => []
    | _ :: rest =>
      let n := field rest 0 1 + 2
      if rest.length < n then [] else rest.take n :: laneFrames fuel (rest.drop n)

/-- The commands that the bytes heard on a lane port spell (R68, R189). -/
def laneCommands (lane : Lane) (bs : List Byte) : List Instr := (laneFrames bs.length bs).map (laneCommand lane)

/-! ## Lane answers (section 11.4, Table 11-8) -/

/-- Fault flags as two bytes, bit n for code n. -/
def flagList (fs : List FaultFlag) : List Byte := beBytes 2 (flagBits (allFlags.map fs.contains))

/-- The contents of an answer. -/
def Contents.bytes : Contents → List Byte
  | .none => []
  | .lines t ls => beInt4 t ++ beBytes 1 ls.length ++ (ls.map fun l => beBytes 1 l.number ++ beInt4 l.amount).flatten
  | .voids t ns => beInt4 t ++ beBytes 1 ns.length ++ (ns.map (beBytes 1)).flatten
  | .item w p b c k => beBytes 1 (bit w * 4 + bit p * 2 + bit b) ++ beBytes 3 c ++ beBytes 3 k
  | .total t => beInt4 t
  | .totals t x => beInt4 t ++ beBytes 4 x.c0 ++ beBytes 4 x.c1 ++ beBytes 4 x.c2 ++ beBytes 4 x.c3
  | .remaining a => beBytes 1 0 ++ beInt4 a
  | .change a => beBytes 1 1 ++ beInt4 a
  | .sequence n => beBytes 4 n
  | .index n => beBytes 2 n
  | .count n => beBytes 2 n
  | .label i id code v h sb tb st at_ nb bat t tv =>
    beBytes 2 i ++ beBytes 4 id ++ beBytes 4 code ++ beBytes 4 v ++ beBytes 3 h ++
      beBytes 1 (bit sb * 16 + bit tb * 8 + st.toNat) ++ beBytes 1 at_ ++ beBytes 4 nb ++ beBytes 1 bat ++ t.bytes ++
      beBytes 4 tv
  | .flags b a => flagList b ++ flagList a

/-- An answer frame, from hex 7E to its checksum. A length above 255 is sent modulo 256 (DESIGN CHOICE,
notes/assumptions/56.md). -/
def Answer.frame (a : Answer) : List Byte :=
  let counted := beBytes 1 a.number ++ beBytes 1 a.code.toNat ++ beBytes 1 a.state.toNat ++ beBytes 4 a.basket ++
    a.contents.bytes
  let body := beBytes 1 counted.length ++ counted
  0x7E#8 :: body ++ [laneChecksum body]

/-! ## The uplink port (R190, Table 11-11) -/

/-- A frame of the uplink or guest port: kind byte, 2-byte body length, body, CRC (R190). -/
def portFrame (kind : Nat) (body : List Byte) : List Byte := withCrc (beBytes 1 kind ++ beBytes 2 body.length ++ body)

/-- A frame passes its CRC and its length is that of its body. -/
def portGood (frame : List Byte) : Bool := frame.length == field frame 1 2 + 5 && crcPasses frame

/-- The bytes of a channel 1 body before the packet: uplink port (2), far address (4), far port (2). R190 gives the channel
bit and no layout of such a body (DESIGN CHOICE, notes/assumptions/19.md). -/
def guestHead : Nat := 8

/-- The kind byte of channel 1: the high bit alone (R190). -/
def guestKind : Nat := 128

/-- The command a frame of the uplink port spells: with the kind byte's high bit set a guest packet, else an office message or
LINK. A bad CRC, an unknown kind, a length that does not fit its kind or a code outside its values is a malformed message
(R126, R190), LINK's too (notes/assumptions/61.md). So is a kind that R126 has only as outbound (DESIGN CHOICE,
notes/assumptions/82.md). A guest packet of any length is a GUEST_PACKET_IN (DESIGN CHOICE, notes/assumptions/69.md), and the part index and last-part flag of an inbound message are not examined (DESIGN CHOICE,
notes/assumptions/73.md). -/
def officeCommand (frame : List Byte) : Instr :=
  if !portGood frame then .uplinkMalformed
  else
    let body := (frame.drop 3).take (field frame 1 2)
    if guestKind ≤ field frame 0 1 then
      if body.length < guestHead then .uplinkMalformed else .guestPacketIn (field body 0 2) (body.drop guestHead)
    else
    match field frame 0 1, body.length with
    | 2, 4 =>
      match field body 3 1 with
      | 1 => .officeAuthAns (field body 2 1) .approved
      | 3 => .officeAuthAns (field body 2 1) .declined
      | _ => .uplinkMalformed
    | 4, 7 => .jtaken (field body 2 1) (field body 3 4)
    | 6, 20 => .batchRec (priceSetOf (body.drop 2))
    | 7, 6 => .batchEnd (field body 2 4)
    | 8, 7 =>
      if field body 4 3 < Config.daySeconds then .officeTime (field body 2 2) (field body 4 3) else .uplinkMalformed
    | 11, 1 =>
      match field body 0 1 with
      | 0 => .link false
      | 1 => .link true
      | _ => .uplinkMalformed
    | _, _ => .uplinkMalformed

/-- An office item as the carrier unit takes it (R127, Table 11-11). -/
def AuthItem.frame (a : AuthItem) : List Byte :=
  portFrame 1 (beBytes 1 0 ++ beBytes 1 1 ++ beBytes 1 a.tag ++ beBytes 1 a.origin.val ++ beBytes 1 a.lane.val ++
    beBytes 4 a.basket ++ beBytes 4 a.amount)

def Part.frame (p : Part) : List Byte := portFrame p.kind (beBytes 1 p.index ++ flagByte p.last ++ p.data)

/-- An item on the uplink port: office messages on channel 0, guest packets on channel 1 from their flow's uplink port (R126,
R139, R190). -/
def CarrierItem.frame : CarrierItem → List Byte
  | .auth a => a.frame
  | .office p => p.frame
  | .guest port dest destPort data =>
    portFrame guestKind (beBytes 2 port ++ beBytes 4 dest ++ beBytes 2 destPort ++ data)

/-! ## The guest port (R190) -/

/-- The command a frame from the access point spells. A kind that the access point does not send is a bad frame (DESIGN CHOICE,
notes/assumptions/74.md), and an AP reset has an empty body (DESIGN CHOICE, notes/assumptions/75.md). -/
def apCommand (frame : List Byte) : Instr :=
  if !portGood frame then .guestFrameBad
  else
    let body := (frame.drop 3).take (field frame 1 2)
    match field frame 0 1, body.length with
    | 1, 6 => .assoc (field body 0 6)
    | 2, 6 => .disassoc (field body 0 6)
    | 3, n =>
      if n < 14 then .guestFrameBad
      else
        .guestPacketOut
          { address := field body 0 6, port := field body 6 2, dest := field body 8 4, destPort := field body 12 2
            data := body.drop 14 }
    | 4, 0 => .apReset
    | 9, 0 => .status
    | _, _ => .guestFrameBad

/-- A message to the access point as bytes. -/
def ApMessage.frame : ApMessage → List Byte
  | .admission a => portFrame 5 (beBytes 6 a)
  | .refuse a r => portFrame 6 (beBytes 6 a ++ beBytes 1 r.toNat)
  | .drop a => portFrame 7 (beBytes 6 a)
  | .packet a p src sp data => portFrame 8 (beBytes 6 a ++ beBytes 2 p ++ beBytes 4 src ++ beBytes 2 sp ++ data)

/-- The claim word of a frame this station sends (Table 11-1). -/
def State.claimWord (s : State) (p : Payload) : BitVec 6 := BitVec.ofNat 6 (p.lineClass * 8 + s.self.val)

/-- A frame this station begins, as the bytes after its claim word. -/
def State.lineFrame (s : State) (f : Frame) : List Byte := frameBytes (s.claimWord f.payload) f.dest f.payload

end Sys2Proof.Machine
end

