-- ==== Sys2Proof/Tests/Slice0.lean ====
section
/-! SUPPORT. Small tests: the well-formedness checks refuse, worked cases of the manual come out as printed, and every statement
with hypotheses has concrete states and operands that meet them, each clause at a boundary of its range. -/

namespace Sys2Proof.Tests
open Sys2Proof.Machine

-- One test at a time: each waits for the kernel, and waiting threads would pile up.
set_option Elab.async false

/-! ## Building small states -/

/-- The state a command leaves. -/
def go (c : Instr) (s : State) : State :=
  match exec c s with
  | .next t => t
  | _ => s

def drive (cs : List Instr) (s : State) : State := cs.foldl (fun t c => go c t) s

/-- The tax rates of section 3.7, lane 3 a SERVICE lane. -/
def prof : Profile where
  store := 77
  w0 := 60
  d1 := 90
  d2 := 240
  openMinute := 480
  closeMinute := 1320
  floorLimit := 5000
  taxRates := #v[0, 700, 2000, 2500]
  modes := #v[.till, .till, .till, .service]
  ranges := (Vector.replicate 8 { base := 0, size := 0 }).set 0 { base := 10, size := 2 }

def pins : Straps := { station := 3, uplink := true, guestPort := true, labelRadio := true, lanes := 4 }

/-- A READY station 3 with everything fitted, the carrier link UP and busy, day 9402, 11:20:15. -/
def ready : State :=
  let s := State.fresh pins .empty
  { s with
    start := { s.start with phase := .ready, profile := prof }
    clock := { now := 100000, sub := 0, valid := true, day := 9402, second := 40815 }
    router := { s.router with linkUp := true, linkFree := false }
    labels := { s.labels with held := false } }

/-- Coffee and bananas of section 3.7.1. -/
def coffee : ItemRecord where
  code := 40011
  kind := .unit
  taxClass := 1
  blocked := false
  overdue := false
  version := 10
  book := ⟨649, 1500, some ⟨3, 1500⟩⟩
  charge := ⟨649, 1500, some ⟨3, 1500⟩⟩
  pending := none
  holders := 0#8

def bananas : ItemRecord :=
  { coffee with code := 20100, kind := .weighed, book := ⟨199, 0, none⟩, charge := ⟨199, 0, none⟩ }

def dear : ItemRecord := { coffee with code := 51207, book := ⟨999999, 0, none⟩, charge := ⟨999999, 0, none⟩ }

def stocked : State := ready.onItems fun t => { t with records := [bananas, coffee, dear] }

/-- Request n of lane 0, with the confirmation of kind k where it has one. -/
def rq (n : Nat) (k : Nat := 255) : Request := { lane := 0, number := n, confirm := 255 - k }

/-- Request n of the SERVICE lane. -/
def sv (n : Nat) (k : Nat := 255) : Request := { lane := 3, number := n, confirm := 255 - k }

def opened : State := drive [.openBasket (rq 1)] stocked
def basketFull : State := drive [.scan (rq 2) 40011 4, .weigh (rq 3) 20100 1234] opened
def totalled : State := drive [.total (rq 4)] basketFull
def paid : State := drive [.cash (rq 5) 2500] totalled

/-- What a beacon of a READY peer says. -/
def beaconOf (applied used : Nat) (up : Bool) (night : NightState) : Beacon where
  uplinkFitted := true
  guestFitted := true
  radioFitted := true
  lanes := 4
  guarded := false
  clockValid := true
  uplinkUp := up
  anyA := false
  anyB := false
  day := 9402
  second := 40815
  applied := applied
  overdueCount := 0
  journalUsed := used
  nightState := night
  nightResult := .none
  undrained := 0

/-- A peer's entry put into the Roster. -/
def withPeer (s : State) (n : Station) (p : Presence) (heard : Nat) (b : Beacon) : State :=
  { s.setEntry n { presence := p, lastHeard := heard, beacon := b } with
    line := { s.line with alone := false } }

/-- Station 1, PRESENT, with the uplink up, is the gateway. -/
def networked : State :=
  (withPeer stocked 1 .present 100000 (beaconOf 0 100 true .idle)).onRoster fun r => { r with gateway := some 1 }

/-- A frame of station n at the head of the Item inbox, and likewise for the others. -/
def itemIn (s : State) (n : Station) (p : Payload) : State := s.onLine fun l => { l with itemInbox := [⟨n, p⟩] }
def journalIn (s : State) (n : Station) (p : Payload) : State := s.onLine fun l => { l with journalInbox := [⟨n, p⟩] }
def nightIn (s : State) (n : Station) (p : Payload) : State := s.onLine fun l => { l with nightInbox := [⟨n, p⟩] }
def authIn (s : State) (n : Station) (p : Payload) : State := s.onLine fun l => { l with authInbox := [⟨n, p⟩] }

def sendingSlot2 (s : State) : State :=
  s.setSlot 2 (.held .sending { dest := none, payload := .claim, applied := false } 0 false)

def onNow (s : State) (now : Nat) : State := s.onClock fun c => { c with now := now }
def atSecond (s : State) (second : Nat) : State := s.onClock fun c => { c with second := second }

/-- A property of whatever an Option holds, decided. -/
theorem of_all {α : Type} {o : Option α} {p : α → Bool} (h : o.all p = true) : ∀ x, o = some x → p x = true := by
  rintro x rfl
  exact h

theorem till (s : State) (l : Lane) (b : List BasketState)
    (h : s.start.powered = true ∧ s.laneTakes l = true ∧ (s.lane l).inFlight = none ∧ s.laneMode l = .till ∧
      s.notReady = false ∧ (s.lane l).basket.state ∈ b) : TillTakes s l b :=
  ⟨⟨h.1, h.2.1, h.2.2.1⟩, h.2.2.2.1, h.2.2.2.2.1, h.2.2.2.2.2⟩

theorem service (s : State) (l : Lane)
    (h : s.start.powered = true ∧ s.laneTakes l = true ∧ (s.lane l).inFlight = none ∧ s.laneMode l = .service) :
    ServiceTakes s l := ⟨⟨h.1, h.2.1, h.2.2.1⟩, h.2.2.2⟩

/-! ## Well-formedness: one ill-formed term for each check -/

theorem test_wf_good : [Instr.lineRest, .scan (rq 1) 99999999 99, .batchRec ⟨1, 1, .unit, 0, some ⟨1, 2, some ⟨3, 4⟩⟩⟩].all
    Instr.wf = true := by decide
theorem test_wf_frame : Instr.wf (.frameReceive 0#6 (List.replicate 246 0#8) false) = false := by decide +kernel
theorem test_wf_number : Instr.wf (.openBasket { lane := 0, number := 256, confirm := 0 }) = false := by decide
theorem test_wf_confirm : Instr.wf (.openBasket { lane := 0, number := 0, confirm := 256 }) = false := by decide
theorem test_wf_scan : Instr.wf (.scan (rq 1) (2 ^ 32) 1) = false ∧ Instr.wf (.scan (rq 1) 1 256) = false := by decide
theorem test_wf_weigh : Instr.wf (.weigh (rq 1) (2 ^ 32) 1) = false ∧ Instr.wf (.weigh (rq 1) 1 65536) = false := by decide
theorem test_wf_void : Instr.wf (.voidLine (rq 1) 256) = false := by decide
theorem test_wf_ask : Instr.wf (.ask (rq 1) (2 ^ 32)) = false := by decide
theorem test_wf_cash : Instr.wf (.cash (rq 1) (2 ^ 32)) = false := by decide
theorem test_wf_card : Instr.wf (.card (rq 1) (2 ^ 32)) = false := by decide
theorem test_wf_ack : Instr.wf (.labelAck (2 ^ 32) 0) = false := by decide
theorem test_wf_index : Instr.wf (.notBeforeExpiry 1024) = false := by decide
theorem test_wf_bind : Instr.wf (.bind (sv 1) (2 ^ 32) 1) = false ∧ Instr.wf (.bind (sv 1) 1 (2 ^ 32)) = false := by decide
theorem test_wf_labels : Instr.wf (.unbind (sv 1) (2 ^ 32)) = false ∧ Instr.wf (.release (sv 1) (2 ^ 32)) = false ∧
    Instr.wf (.label (sv 1) (2 ^ 32)) = false := by decide
theorem test_wf_tag : Instr.wf (.officeAuthAns 256 .approved) = false ∧ Instr.wf (.authEntryExpiry 0) = false ∧
    Instr.wf (.authEntryExpiry 65) = false := by decide
theorem test_wf_flow : Instr.wf (.flowIdleExpiry 512) = false ∧ Instr.wf (.guestPacketIn 65536 []) = false := by decide
theorem test_wf_address : Instr.wf (.assoc (2 ^ 48)) = false ∧ Instr.wf (.disassoc (2 ^ 48)) = false ∧
    Instr.wf (.guestPacketOut ⟨2 ^ 48, 0, 0, 0, []⟩) = false := by decide
theorem test_wf_packet : Instr.wf (.guestPacketOut ⟨0, 65536, 0, 0, []⟩) = false ∧
    Instr.wf (.guestPacketOut ⟨0, 0, 2 ^ 32, 0, []⟩) = false ∧ Instr.wf (.guestPacketOut ⟨0, 0, 0, 65536, []⟩) = false := by
  decide
theorem test_wf_office : Instr.wf (.jtaken 256 0) = false ∧ Instr.wf (.jtaken 0 (2 ^ 32)) = false ∧
    Instr.wf (.batchEnd (2 ^ 32)) = false := by decide
theorem test_wf_time : Instr.wf (.officeTime 65536 0) = false ∧ Instr.wf (.officeTime 0 86400) = false := by decide
theorem test_wf_set : Instr.wf (.batchRec ⟨2 ^ 32, 1, .unit, 0, none⟩) = false ∧
    Instr.wf (.batchRec ⟨1, 2 ^ 32, .unit, 0, none⟩) = false ∧
    Instr.wf (.batchRec ⟨1, 1, .unit, 0, some ⟨2 ^ 24, 0, none⟩⟩) = false ∧
    Instr.wf (.batchRec ⟨1, 1, .unit, 0, some ⟨0, 65536, none⟩⟩) = false ∧
    Instr.wf (.batchRec ⟨1, 1, .unit, 0, some ⟨0, 0, some ⟨0, 1⟩⟩⟩) = false := by decide
theorem test_wf_profile : Instr.wf (.profileReadDone (some (List.replicate 97 0#8))) = false := by decide +kernel
theorem test_wf_unknown : Instr.wf (.unknownRequest 0 256) = false := by decide

/-! ## Worked cases of the manual -/

/-- The check word of section 11.1: its check value over the nine digits. -/
theorem test_crc : crc16 [0x31#8, 0x32#8, 0x33#8, 0x34#8, 0x35#8, 0x36#8, 0x37#8, 0x38#8, 0x39#8] = 0x29B1#16 := by
  decide +kernel

/-- Section 3.7.1, steps 1 to 4. -/
theorem test_worked_sale :
    ((basketFull.lane 0).basket.total, (basketFull.lane 0).basket.lines.map (·.amount)) = (2298, [2208, -156, 246]) ∧
      (totalled.lane 0).basket.tax = some { c0 := 0, c1 := 150, c2 := 0, c3 := 0 } ∧
      (paid.lane 0).basket.state = .paid ∧ (paid.lane 0).basket.change = some 202 := by decide +kernel

/-- Section 3.7.2, steps 3 and 6. -/
theorem test_worked_void :
    ((drive [.voidLine (rq 4 4) 1] basketFull).lane 0).basket.total = 246 ∧
      ((drive [.voidLine (rq 4 4) 1, .scan (rq 5) 40011 1] basketFull).lane 0).basket.total = 798 := by decide +kernel

/-- R57: at the largest headline 10 units are taken and 11 refused. -/
theorem test_scan_limit :
    ((drive [.scan (rq 2) 51207 10] opened).lane 0).basket.total = 9999990 ∧
      ((drive [.scan (rq 2) 51207 11] opened).lane 0).answers.map (·.code) = [.ok, .limit] := by decide +kernel

/-- CLOSE writes a SALE of one header, three lines and one tender (section 4.7), numbered 1. -/
theorem test_close : (drive [.close (rq 6)] paid).held.used = 5 ∧ (drive [.close (rq 6)] paid).held.nextSeq = 2 ∧
    ((drive [.close (rq 6)] paid).lane 0).basket = .empty := by decide +kernel

/-- The state after reset is what a cold start on the same pins leaves (R178). -/
theorem test_reset : (drive [.powerOn defaultStraps false] ready) = State.reset := by decide +kernel

/-! ## The hypotheses of the statements are met: the machine, starts and the store line -/

theorem witness_StepRuns : { ready with pending := [.lineRest] }.pending = .lineRest :: [] := rfl

theorem witness_EmptyQueue :
    ready.pending = [] ∧ (ready.start.powered = true ∧ ready.clock.valid = true ∧ ready.clock.sub < 999) ∧
      (go .powerLoss ready).start.powered = false ∧ State.reset.clock.valid = false ∧
      (ready.onClock fun c => { c with sub := 999, second := 86398 }).clock.second < 86399 ∧
      (ready.onClock fun c => { c with sub := 999, second := 86399 }).clock.second = 86399 := by decide +kernel

theorem witness_CommandsKeep : (∃ t, exec .lineRest ready = .next t) ∧ Instr.starts .lineRest = false ∧
    ∀ bytes, Instr.lineRest ≠ .profileReadDone bytes := ⟨⟨_, rfl⟩, rfl, fun _ h => by cases h⟩

/-- Every count at its highest. -/
def full : State := ready.onLine fun l =>
  { l with sfc := 256, hfc := 255, quietCount := 32, itemInbox := List.replicate 32 ⟨1, .pull⟩ }

theorem witness_LineBounds : full.LineBounds ∧ ∃ t, step full = .next t := ⟨by constructor <;> decide, _, rfl⟩
theorem witness_CodeOrder : stocked.Ordered ∧ ∃ t, step stocked = .next t := by
  refine ⟨?_, _, rfl⟩
  unfold State.Ordered
  decide +kernel
theorem witness_LanesAreIsolated : Instr.ownLane (.openBasket (rq 1)) = some 0 ∧ (3 : Lane) ≠ 0 ∧
    ∃ t, exec (.openBasket (rq 1)) ready = .next t := ⟨rfl, by decide, _, rfl⟩
theorem witness_ColdStart : (Instr.resetPin pins false = .resetPin pins false ∧ ready.start.powered = true) := ⟨rfl, rfl⟩

/-- Two baskets open, and the last two numbers left for them. -/
def twoOpen : HeldMemory := { HeldMemory.empty with markers := #v[some 7, none, some 4117, none], nextSeq := 4294967293 }

theorem witness_WarmStart : pins.labelRadio = true ∧
    [((0 : Lane), 7), (2, 4117)] = allLanes.filterMap (fun l => twoOpen.markers[l.val].map fun n => (l, n)) ∧
    twoOpen.used + 2 ≤ 24576 ∧ twoOpen.nextSeq + 2 ≤ 4294967295 := by decide +kernel
theorem witness_PowerLoss : ready.start.powered = true ∧ (go .powerLoss ready).start.powered = false ∧
    ∀ p k, Instr.lineRest ≠ .powerOn p k := ⟨rfl, rfl, fun _ _ h => by cases h⟩

/-- The profile as its 96 bytes, in pieces of 16 (Table 11-10). -/
def profilePieces : List (List Byte) :=
  [beBytes 4 77 ++ beBytes 2 60 ++ beBytes 2 90 ++ beBytes 2 240 ++ beBytes 2 480 ++ beBytes 4 5000,
    beBytes 2 0 ++ beBytes 2 700 ++ beBytes 2 2000 ++ beBytes 2 2500 ++ [0#8, 0#8, 0#8, 1#8] ++ beBytes 4 10,
    beBytes 4 2 ++ zeros 12, zeros 16, zeros 16, zeros 12 ++ beBytes 2 1320]

def profileBytes : List Byte := profilePieces.flatten ++ beBytes 2 0x415F

/-- The register of the check after each piece. -/
theorem test_crc_pieces :
    profilePieces[0].foldl crcByte 0xFFFF#16 = 0x83EB#16 ∧ profilePieces[1].foldl crcByte 0x83EB#16 = 0x7382#16 ∧
      profilePieces[2].foldl crcByte 0x7382#16 = 0x9276#16 ∧ profilePieces[3].foldl crcByte 0x9276#16 = 0x44EE#16 ∧
      profilePieces[4].foldl crcByte 0x44EE#16 = 0x1EDB#16 ∧ profilePieces[5].foldl crcByte 0x1EDB#16 = 0x415F#16 := by
  decide +kernel

theorem test_profile_crc : crc16 (profileBytes.take 94) = 0x415F#16 := by
  have h := test_crc_pieces
  have e : profileBytes.take 94 = profilePieces[0] ++ profilePieces[1] ++ profilePieces[2] ++ profilePieces[3] ++
      profilePieces[4] ++ profilePieces[5] := by decide +kernel
  rw [e, crc16]
  simp only [List.foldl_append]
  rw [h.1, h.2.1, h.2.2.1, h.2.2.2.1, h.2.2.2.2.1, h.2.2.2.2.2]

theorem test_profile : Profile.ofBytes profileBytes = some prof := by
  unfold Profile.ofBytes
  rw [test_profile_crc]
  decide +kernel

def listening : State := State.reset.enterListen

theorem witness_ProfileRead : State.reset.start.powered = true ∧ State.reset.silenced = false ∧
    State.reset.start.phase = .profile ∧ State.reset.slot 6 = .free ∧
    (some profileBytes).bind Profile.ofBytes = some prof ∧ (none : Option (List Byte)).bind Profile.ofBytes = none ∧
    ready.start.phase ≠ .profile := by
  and_intros <;> first | rw [Option.bind_some, test_profile] | decide +kernel
theorem witness_ListenWait : (onNow listening 2000).start.phase = .listen ∧
    listening.start.listenUntil = some 2000 ∧ 2000 ≤ (onNow listening 2000).clock.now ∧
    (onNow listening 2000).silenced = false ∧ listening.items.pull = none ∧ listening.tableOffered = false ∧
    listening.held.labels = [] ∧ listening.labels.queue = [] ∧
    (withPeer listening 1 .present 0 (beaconOf 1 0 true .idle)).tableOffered = true ∧ listening.slot 7 = .free ∧
    listening.line.kept = [] := by decide +kernel
theorem witness_Clear : ServiceTakes ready 3 ∧ (sv 1 24).confirm = 231 := ⟨service _ _ (by decide +kernel), rfl⟩

/-- A CLAIM of class 1 and a beacon of class 3, both WAITING. -/
def twoWaiting : State :=
  (ready.setSlot 2 (.held .waiting { dest := none, payload := .claim, applied := false } 3 false)).putBeacon

theorem witness_LineRest : full.silenced = true ∧ (ready.onLine fun l => { l with letPass := true }).line.letPass = true ∧
    ready.silenced = false ∧ ready.line.letPass = false ∧ (∀ i, (twoWaiting.slot i).isSending = false) ∧
    (∀ i, (ready.slot i).waitingFrame = none) ∧
    twoWaiting.slot 2 = .held .waiting { dest := none, payload := .claim, applied := false } 3 false ∧
    ∀ j : Fin 11, (twoWaiting.slot j).waitingFrame.all (fun g => 1 < g.payload.lineClass ||
      (g.payload.lineClass == 1 && decide (2 ≤ j))) = true := by decide +kernel

/-- Both the alone and the networked end of an attempt; the send fault count one attempt below SILENCED. -/
theorem witness_AttemptEnd :
    let s := sendingSlot2 networked
    let t := s.onLine fun l => { l with sfc := 247 }
    s.start.powered = true ∧ s.silenced = false ∧
      s.slot 2 = .held .sending { dest := none, payload := .claim, applied := false } 0 false ∧
      (∀ j, (s.slot j).isSending = true → j = 2) ∧ indifferent .claim = true ∧ s.line.kept = [] ∧
      s.line.beaconKept = false ∧ faultsLeft t.line.sfc .faulted = 255 ∧ faultsLeft s.line.sfc .unheard < 256 := by
  decide +kernel

theorem witness_FaultsSilence :
    let s := (sendingSlot2 networked).onLine fun l => { l with sfc := 248 }
    s.start.powered = true ∧ (∀ j, j ≠ 2 → s.slot j = .free) ∧ 248 ≤ s.line.sfc ∧ s.line.sfc < 256 ∧
      s.items.pull = none ∧ s.night.state ≠ .exchanging ∧ s.night.dayDrain = false ∧ s.roster.gateway ≠ some s.self := by
  decide +kernel
theorem witness_QuietSpells :
    let s := ready.onLine fun l => { l with sfc := 256, quietCount := 31 }
    ready.silenced = false ∧ s.silenced = true ∧ s.line.quietCount = 31 ∧
      (ready.onLine fun l => { l with sfc := 256, quietCount := 30 }).line.quietCount < 31 ∧ s.anyPresent = false ∧
      s.start.phase ≠ .pull ∧ s.roster.gateway ≠ some s.self ∧ s.items.deferred = [] ∧
      ∀ f ∈ allFlags, (s.faults.flags[f.code.val]).unsent = none := by decide +kernel

/-- A PRICE of station 1 as it goes over the line. -/
def aSet : PriceSet := { version := 11, code := 40011, kind := .unit, taxClass := 1, body := some ⟨500, 0, none⟩ }
def claimOf (p : Payload) : BitVec 6 := BitVec.ofNat 6 (p.lineClass * 8 + 1)
def frameOf (d : Option Station) (p : Payload) : List Byte := frameBytes (claimOf p) d p

theorem witness_FrameReceive :
    goodReceive (claimOf (.price aSet)) (frameOf none (.price aSet)) = true ∧ goodReceive 0#6 [] = false ∧
      readFrame (claimOf (.price aSet)) (frameOf none (.price aSet)) = some (1, none, .price aSet) ∧
      readFrame (claimOf (.price aSet)) (frameOf (some 7) (.price aSet)) = some (1, some 7, .price aSet) ∧
      (1 : Station) ≠ ready.self ∧ ready.line.sfc < 256 ∧
      (ready.onLine fun l => { l with itemInbox := List.replicate 31 ⟨1, .pull⟩ }).line.itemInbox.length < 32 ∧
      32 ≤ full.line.itemInbox.length := by decide +kernel
theorem witness_Beacons :
    let b := beaconOf 0 100 true .idle
    goodReceive (claimOf (.beacon b)) (frameOf none (.beacon b)) = true ∧
      readFrame (claimOf (.beacon b)) (frameOf none (.beacon b)) = some (1, none, .beacon b) ∧
      networked.present 1 = true ∧ networked.clock.valid = true ∧ b.nightState ≠ .exchanging ∧
      b.applied ≤ networked.items.applied := by decide +kernel
theorem witness_EntriesAge :
    let b := beaconOf 0 100 true .idle
    let q := withPeer stocked 1 .quiet 90000 b
    networked.entry 1 = some ⟨.present, 100000, b⟩ ∧ 100000 + 3000 ≤ (onNow networked 103000).clock.now ∧
      networked.clock.now < 100000 + 3000 ∧ networked.items.pull = none ∧ networked.start.phase ≠ .pull ∧
      q.entry 1 = some ⟨.quiet, 90000, b⟩ ∧ 90000 + 10000 ≤ q.clock.now ∧ q.items.serving = none ∧ q.journal = none ∧
      q.night.batch = none ∧ q.night.exchange ≠ some 1 := by decide +kernel
theorem witness_FramesReadBack : PriceSet.wf aSet = true ∧ (claimOf .pull) = BitVec.ofNat 6 (4 * 8 + 1) := by decide
theorem witness_BeaconDue :
    let s := (sendingSlot2 ready).onLine fun l => { l with nextBeacon := some 100000 }
    s.silenced = false ∧ s.line.nextBeacon = some 100000 ∧ 100000 ≤ s.clock.now ∧ s.slot 6 = .free ∧
      (s.putBeacon).slot 6 = .held .waiting s.beaconFrame 0 false ∧
      (s.setSlot 6 (.held .sending s.beaconFrame 0 false)).slot 6 = .held .sending s.beaconFrame 0 false := by
  decide +kernel

/-! ## The hypotheses are met: the Item Table -/

def teaSet (body : Option PriceState) (version : Nat) : PriceSet :=
  { version := version, code := 50233, kind := .unit, taxClass := 2, body := body }

/-- A record without multibuy, held by stations 3 and 5, or by none. -/
def tea (holders : StationSet) (pending : Option Pending) : ItemRecord where
  code := 50233
  kind := .unit
  taxClass := 2
  blocked := false
  overdue := false
  version := 10
  book := ⟨250, 0, none⟩
  charge := ⟨250, 0, none⟩
  pending := pending
  holders := holders

/-- Stations 3 and 5. -/
def both : StationSet := 0x28#8

def withTea (r : ItemRecord) : State := ready.onItems fun t => { t with records := [r] }

theorem priceWaits (s : State) (p : PriceSet)
    (h : s.start.powered = true ∧ s.items.doneWaits = [] ∧ s.line.repairAfterDrain = false ∧ s.items.pull = none) :
    PriceWaits (itemIn s 1 (.price p)) 1 p [] := ⟨h.1, rfl, ⟨h.2.1, h.2.2.1⟩, h.2.2.2⟩

theorem witness_StaleAndRefused :
    PriceWaits (itemIn (withTea (tea 0 none)) 1 (.price (teaSet none 10))) 1 (teaSet none 10) [] ∧
      (withTea (tea 0 none)).items.find 50233 = some (tea 0 none) ∧ (10 : Nat) ≤ (tea 0 none).version ∧
      PriceWaits (itemIn ready 1 (.price (teaSet (some ⟨1000000, 0, none⟩) 11))) 1 (teaSet (some ⟨1000000, 0, none⟩) 11) [] ∧
      ready.items.find 50233 = none ∧ 999999 < 1000000 ∧ 99999999 < 100000000 := by
  and_intros <;> first | exact priceWaits _ _ (by decide +kernel) | exact ⟨rfl, rfl⟩ | decide +kernel
theorem witness_NewSet :
    PriceWaits (itemIn ready 1 (.price (teaSet (some ⟨999999, 9001, some ⟨10, 1⟩⟩) 11))) 1
      (teaSet (some ⟨999999, 9001, some ⟨10, 1⟩⟩) 11) [] ∧
      ready.held.bound 50233 = [] ∧ ready.items.find 50233 = none ∧ ready.items.records.length < 16384 := by
  and_intros <;> first | exact priceWaits _ _ (by decide +kernel) | exact ⟨rfl, rfl⟩ | decide +kernel
/-- An increase by one unit, an equal price, and a DELIST, each on a record that meets its clause. -/
theorem witness_SetsOnRecords :
    PriceWaits (itemIn (withTea (tea both none)) 1 (.price (teaSet (some ⟨251, 0, none⟩) 11))) 1
      (teaSet (some ⟨251, 0, none⟩) 11) [] ∧
      (withTea (tea both none)).held.bound 50233 = [] ∧ (withTea (tea both none)).items.find 50233 = some (tea both none) ∧
      headline (tea both none).charge < headline ⟨251, 0, none⟩ ∧ both ≠ 0#8 ∧
      (withTea (tea both none)).items.watch = [] ∧ headline ⟨250, 0, none⟩ ≤ headline (tea both none).charge ∧
      PriceWaits (itemIn (withTea (tea both none)) 1 (.price (teaSet none 11))) 1 (teaSet none 11) [] := by
  and_intros <;> first | exact priceWaits _ _ (by decide +kernel) | exact ⟨rfl, rfl⟩ | decide +kernel
/-- An increase outstanding at station 5 alone. -/
def waitingTea : ItemRecord := { tea both (some ⟨11, 0x20#8, true⟩) with version := 11, book := ⟨251, 0, none⟩ }

theorem witness_Shown :
    let s := itemIn (withTea waitingTea) 1 (.shown 50233 11 5)
    InboxPlain s ∧ s.start.powered = true ∧ s.items.pull = none ∧ s.items.find 50233 = some waitingTea ∧
      hasStation (0x20#8) 5 = true ∧ dropStation (0x20#8) 5 = 0#8 ∧ hasStation (0x20#8) 3 = false ∧
      dropStation both 5 ≠ 0#8 := by
  refine ⟨⟨rfl, rfl⟩, ?_⟩
  decide +kernel

theorem witness_Hold :
    let s := itemIn (withTea waitingTea) 1 (.hold 50233 5 false)
    let b := { tea (0x20#8) none with blocked := true }
    InboxPlain s ∧ (withTea b).held.bound 50233 = [] ∧ s.start.powered = true ∧
      s.items.find 50233 = some waitingTea ∧ hasStation both 5 = true ∧
      hasStation both 4 = false ∧ s.items.find 1 = none ∧ waitingTea.blocked = false ∧
      (withTea b).items.find 50233 = some b ∧ dropStation b.holders 5 = 0#8 := by
  exact ⟨⟨rfl, rfl⟩, by decide +kernel⟩

theorem witness_Watch :
    let s := (withTea waitingTea).onItems fun t => { t with watch := [⟨50233, 11, 100000⟩] }
    s.start.powered = true ∧ s.items.watch = ⟨50233, 11, 100000⟩ :: [] ∧ s.items.find 50233 = some waitingTea ∧
      100000 ≤ s.clock.now ∧ (onNow s 99999).clock.now < 100000 := by decide +kernel

/-- A pull from station 1 under way. -/
def aPull : Pull where
  phase := .requested
  target := 1
  tried := 0#8
  repeated := false
  touched := []
  full := false
  delivered := []
  unsure := false
  deadline := some 100000

def pulling : State := networked.onItems fun t => { t with pull := some aPull }

theorem witness_Chunk :
    let s := itemIn pulling 1 (.chunk { status := .records, records := [tea 0 none], applied := 0 })
    InboxPlain s ∧ s.held.bound 50233 = [] ∧ s.start.powered = true ∧ s.items.pull = some aPull ∧ aPull.target = 1 ∧ aPull.target ≠ 2 ∧
      s.items.find 50233 = none ∧ s.items.records.length < 16384 ∧ (tea 0 none).pending = none := by
  exact ⟨⟨rfl, rfl⟩, by decide +kernel⟩

theorem witness_PullTimer :
    let s := withPeer pulling 4 .present 100000 (beaconOf 0 0 true .idle)
    s.start.powered = true ∧ s.items.pull = some aPull ∧ aPull.deadline = some 100000 ∧ s.slot 7 = .free ∧
      s.line.kept = [] ∧ (onNow s 99999).clock.now < 100000 ∧ 100000 ≤ s.clock.now ∧ s.silenced = false ∧
      s.present 4 = true ∧ hasStation (addStation (0#8) 1) 4 = false ∧
      (∀ k : Station, k < 4 → s.present k = false ∨ hasStation (addStation (0#8) 1) k = true) ∧
      (∀ m : Station, pulling.present m = true → hasStation (addStation (0#8) 1) m = true) ∧
      s.items.repairMark = false ∧ s.start.phase = .ready := by decide +kernel

/-! ## The hypotheses are met: lanes, cards, the journal -/

/-- The sale of section 3.7.1 on the networked station, its CARD asked of station 1, and the AUTHQ gone out. -/
def netTotalled : State := drive [.openBasket (rq 1), .scan (rq 2) 40011 4, .weigh (rq 3) 20100 1234, .total (rq 4)] networked
def asked : State := (drive [.card (rq 5) 2298] netTotalled).setSlot 0 .free
def part : State := (drive [.card (rq 5) 2297] netTotalled).setSlot 0 .free

theorem witness_CommonTests :
    Instr.request (.openBasket (rq 1)) = some (rq 1, 1) ∧ ready.start.powered = true ∧
      (go (.laneReset 0) ready).laneTakes 0 = false ∧ ready.laneTakes 0 = true ∧ (asked.lane 0).inFlight ≠ none ∧
      (ready.lane 0).inFlight = none ∧ ready.laneMode 0 = .till ∧ ready.laneMode 3 = .service ∧
      Instr.request (.clear (sv 1)) = some (sv 1, 24) ∧ (sv 1).confirm + 24 ≠ 255 ∧
      Instr.request (.voidLine (rq 1) 1) = some (rq 1, 4) ∧ (rq 1).confirm + 4 ≠ 255 ∧ ready.notReady = false ∧
      listening.notReady = true := by decide +kernel

theorem witness_LaneFrames : ready.laneTakes 0 = true ∧ (go (.laneReset 0) ready).laneTakes 0 = false ∧
    ready.start.powered = true := by decide +kernel
theorem witness_LaneReset :
    basketFull.lanePresent 0 = true ∧ (basketFull.lane 0).auth = none ∧ (basketFull.lane 0).basket.state ≠ .closed ∧
      (basketFull.lane 0).basket.lines ≠ [] ∧ (ready.lane 0).basket.state = .closed ∧
      (opened.lane 0).basket.lines = [] ∧ (opened.lane 0).basket.tenders = [] ∧
      (ready.onStart fun c => { c with straps := { pins with lanes := 0 } }).lanePresent 0 = false := by decide +kernel

/-- Room for the last reservation: the numbers left are one more than the open baskets; and one fewer. -/
def lastRoom : State := ready.onHeld fun h => { h with nextSeq := 4294967294 }
def noRoom : State := ready.onHeld fun h => { h with nextSeq := 4294967295 }

theorem witness_Open : TillTakes lastRoom (rq 1).lane [.closed] ∧ lastRoom.hasRoom = true ∧
    TillTakes noRoom (rq 1).lane [.closed] ∧ noRoom.hasRoom = false := by
  and_intros <;> first | exact till _ _ _ (by decide +kernel) | decide +kernel
/-- The highest count of a SCAN at the highest headline, and the weight of section 3.7.1. -/
theorem witness_ScanAndWeigh :
    TillTakes opened (rq 2).lane [.opened] ∧ opened.items.find 51207 = some dear ∧
      ((opened.lane 0).basket.lockFor dear).kind = .unit ∧
      lineAmount .unit ((opened.lane 0).basket.lockFor dear).headline 10 ≤ 9999999 ∧
      (opened.lane 0).basket.newPromos ((opened.lane 0).basket.lockFor dear) 10 1 = [] ∧
      opened.items.find 20100 = some bananas ∧ ((opened.lane 0).basket.lockFor bananas).kind = .weighed ∧
      lineAmount .weighed ((opened.lane 0).basket.lockFor bananas).headline 30000 ≤ 9999999 := by
  and_intros <;> first | exact till _ _ _ (by decide +kernel) | decide +kernel
theorem witness_Amounts : (⟨649, 10000, none⟩ : PriceState).markdown ≤ 10000 := by decide

theorem witness_Void :
    TillTakes basketFull (rq 4 4).lane [.opened] ∧ (rq 4 4).confirm = 251 ∧
      ((basketFull.lane 0).basket.lines.find? (fun x => x.number == 1)).any (fun l => !l.voided && !l.promo) = true ∧
      ((basketFull.lane 0).basket.lines.find? (fun x => x.number == 2)).any (fun l => l.promo) = true ∧
      (basketFull.lane 0).basket.lines.find? (fun x => x.number == 4) = none := by
  and_intros <;> first | exact till _ _ _ (by decide +kernel) | decide +kernel
theorem witness_Ask : asked.start.powered = true ∧ asked.laneTakes (rq 6).lane = true ∧
    (asked.lane (rq 6).lane).inFlight ≠ none ∧ (listening.lane (rq 6).lane).inFlight = none ∧
    listening.laneTakes (rq 6).lane = true ∧ listening.items.find 40011 = none ∧ stocked.items.find 40011 = some coffee := by
  decide +kernel
theorem witness_TotalAndResume : TillTakes basketFull (rq 4).lane [.opened] ∧ TillTakes totalled (rq 5).lane [.totalled] := by
  and_intros <;> first | exact till _ _ _ (by decide +kernel) | decide +kernel
/-- Three tenders given, one unit short. -/
def threeTenders : State := drive [.cash (rq 5) 1, .cash (rq 6) 1, .cash (rq 7) 2295] totalled

theorem witness_Cash : TillTakes totalled (rq 5).lane [.totalled, .tendering] ∧ (totalled.lane 0).basket.remaining = 2298 ∧
    TillTakes threeTenders (rq 8).lane [.totalled, .tendering] ∧ (threeTenders.lane 0).basket.tenders.length = 3 ∧
    (threeTenders.lane 0).basket.remaining = 1 := by
  and_intros <;> first | exact till _ _ _ (by decide +kernel) | decide +kernel
theorem witness_Card : TillTakes netTotalled (rq 5).lane [.totalled, .tendering] ∧
    (netTotalled.lane 0).basket.remaining = 2298 ∧ netTotalled.roster.gateway = some 1 ∧ (1 : Station) ≠ netTotalled.self ∧
    netTotalled.silenced = false ∧ netTotalled.slot 0 = .free ∧ netTotalled.line.kept = [] ∧
    totalled.roster.gateway = none ∧ 2297 ≤ totalled.start.profile.floorLimit ∧ 2298 ≤ totalled.start.profile.floorLimit ∧
    (totalled.onStart fun c => { c with profile := { prof with floorLimit := 2297 } }).start.profile.floorLimit < 2298 := by
  and_intros <;> first | exact till _ _ _ (by decide +kernel) | decide +kernel
theorem authWaits (s : State) (e : AuthEntry) (n : Nat)
    (h : s.start.powered = true ∧ s.lanePresent 0 = true ∧ (s.lane 0).auth = some e ∧ (s.lane 0).inFlight = some n ∧
      (s.lane 0).basket.state = .authWait ∧ s.slot 0 = .free ∧ s.slot 1 = .free ∧ s.line.kept = []) : AuthWaits s 0 e n :=
  ⟨h.1, h.2.1, h.2.2.1, h.2.2.2.1, h.2.2.2.2.1, h.2.2.2.2.2.1, h.2.2.2.2.2.2.1, h.2.2.2.2.2.2.2⟩

def entry (amount : Nat) : AuthEntry :=
  { basket := 1, amount := amount, start := 100000, route := .line, authq := .produced }

theorem witness_AuthTimer : AuthWaits (onNow part 115000) 0 (entry 2297) 5 ∧
    (entry 2297).start + 15000 ≤ (onNow part 115000).clock.now ∧ (2297 : Int) ≤ (part.lane 0).basket.remaining ∧
    AuthWaits (onNow asked 115000) 0 (entry 2298) 5 ∧ (2298 : Int) ≤ (asked.lane 0).basket.remaining := by
  and_intros <;> first | exact authWaits _ _ _ (by decide +kernel) | decide +kernel
theorem witness_Autha : AuthWaits (authIn asked 1 (.autha 0 1 .approved)) 0 (entry 2298) 5 ∧
    (authIn asked 1 (.autha 0 1 .approved)).line.authInbox = [⟨1, .autha 0 1 .approved⟩] ∧
    ((entry 2298).amount : Int) = (asked.lane 0).basket.remaining := by
  and_intros <;> first | exact authWaits _ _ _ (by decide +kernel) | decide +kernel
/-- One late entry of basket 1. -/
def lateOne : State := ready.onLane 0 fun c => { c with late := [⟨1, 2298, .none, 40000⟩] }

theorem witness_Late :
    (∀ e ∈ (lateOne.lane 0).late, e.basket ≠ 2) ∧ (lateOne.lane 0).auth = none ∧
      (lateOne.lane 0).late = ⟨1, 2298, .none, 40000⟩ :: [] ∧ 40000 + 60000 ≤ lateOne.clock.now ∧
      (authIn lateOne 1 (.autha 0 2 .approved)).line.authInbox = ⟨1, .autha 0 2 .approved⟩ :: [] := by decide +kernel
theorem witness_CloseAndCancel : TillTakes paid (rq 6).lane [.paid] ∧ TillTakes basketFull (rq 6).lane [.opened, .totalled] ∧
    (basketFull.lane 0).basket.lines ≠ [] ∧ (rq 6).confirm + 10 ≠ 255 ∧ (rq 6 10).confirm = 245 ∧
    TillTakes opened (rq 6).lane [.opened, .totalled] ∧ (opened.lane 0).basket.lines = [] ∧
    AuthWaits asked 0 (entry 2298) 5 ∧ asked.laneTakes 0 = true ∧ asked.laneMode 0 = .till ∧ asked.notReady = false ∧
    (asked.lane 0).late.length < 8 := by
  and_intros <;> first | exact till _ _ _ (by decide +kernel) | exact authWaits _ _ _ (by decide +kernel) | decide +kernel
/-- Two notes in the journal, pulled and sent. -/
def noteOf (seq : Nat) (inFlight : Bool) : JournalRecord :=
  { seq := seq, content := .lostByRestart 3 0 7 ⟨false, 0, 0⟩, inFlight := inFlight }
def recorded (inFlight : Bool) : State := ready.onHeld fun h =>
  { h with records := [noteOf 1 inFlight, noteOf 2 inFlight], nextSeq := 3 }
def sent (p : Puller) : State :=
  (recorded true).setJournal (some { puller := p, cursor := none, sentThrough := some 2 })

theorem witness_JournalBatches :
    (journalIn (recorded false) 1 (.jpull 1)).line.journalInbox = ⟨1, .jpull 1⟩ :: [] ∧
      (recorded false).held.records = noteOf 1 false :: [noteOf 2 false] ∧ (recorded false).silenced = false ∧
      (recorded false).slot 9 = .free ∧ (recorded false).line.kept = [] ∧ ready.held.records = [] ∧
      (1 = if 1 ≤ 1 ∧ 1 ≤ 16 then 1 else 16) ∧ (16 = if 1 ≤ 17 ∧ 17 ≤ 16 then 17 else 16) ∧
      (sent (.peer 1)).journal = some ⟨.peer 1, none, some 2⟩ ∧ Puller.peer 1 ≠ .peer 2 ∧ ready.journal = none := by
  decide +kernel

def ownBatch : Batch where
  target := 3
  phase := .awaiting 130000
  collected := [⟨1, zeros 32⟩, ⟨2, zeros 32⟩]
  part := none
  broken := false
  taken := 1
  linkLost := false
  targetLost := false

theorem witness_Released : ownBatch.target = (sent .self).self ∧
    (sent .self).journal = some ⟨.self, none, some 2⟩ := by decide +kernel

/-! ## The hypotheses are met: labels, the uplink, guests -/

/-- A label of the coffee, number `i`, in a state. -/
def labelAt (i : Nat) (st : LabelState) (attempts : Nat) (wait : Option Nat) : Label where
  index := i
  radioId := 88 + i
  item := 40011
  shownVersion := 9
  shownHeadline := 552
  shownBlocked := false
  state := st
  attempts := attempts
  notBefore := wait
  battery := 2
  contact := none

def labelled (ls : List Label) : State := stocked.onHeld fun h => { h with labels := ls }

/-- An UPDATE sent to label 0 and due for its answer. -/
def updating (attempts : Nat) : State :=
  { labelled [labelAt 0 .awaiting attempts none] with
    labels :=
      { queue := [], held := false
        exchange := some { index := 0, radioId := 88, headline := 552, version := 10, blocked := false, deadline := 100000
                           changed := false, void := false } } }

theorem witness_LabelExchanges :
    let q := (labelled [labelAt 0 .queued 0 none]).onLabels fun u => { u with queue := [0] }
    q.labels.held = false ∧ q.labels.exchange = none ∧ q.labels.queue = 0 :: [] ∧
      q.held.labelAt 0 = some (labelAt 0 .queued 0 none) ∧ (updating 4).held.labelAt 0 = some (labelAt 0 .awaiting 4 none) ∧
      (updating 5).held.labelAt 0 = some (labelAt 0 .awaiting 5 none) ∧ 100000 ≤ (updating 5).clock.now ∧
      ((updating 4).items.find 40011).all (fun r => r.pending.isNone) = true ∧ (88 : Nat) ≠ 89 ∧
      (4, 480000) ∈ [(0, 2000), (1, 8000), (2, 30000), (3, 120000), (4, 480000)] ∧
      (labelled [labelAt 0 .retryWait 1 (some 100000)]).held.labelAt 0 = some (labelAt 0 .retryWait 1 (some 100000)) := by
  decide +kernel

/-- Indices 0 and 2 are taken, so 1 is the lowest free one. -/
theorem witness_Bind :
    let s := labelled [labelAt 0 .current 0 none, labelAt 2 .current 0 none]
    ServiceTakes s 3 ∧ s.start.straps.labelRadio = true ∧ s.items.find 40011 = some coffee ∧ coffee.blocked = false ∧
      s.held.labelOf 99 = none ∧ s.held.labels.length < 1024 ∧ s.held.labels.Pairwise (fun a b => a.index < b.index) ∧
      (∀ m ∈ s.held.labels, m.index ≠ 1) ∧ (∀ j < 1, ∃ m ∈ s.held.labels, m.index = j) ∧ s.held.bound 40011 ≠ [] ∧
      networked.silenced = false ∧ networked.line.alone = false ∧ networked.slot 4 = .free ∧ networked.line.kept = [] ∧
      networked.held.bound 40011 = [] ∧ s.items.find 1 = none ∧
      (ready.onStart fun c => { c with straps := { pins with labelRadio := false } }).start.straps.labelRadio = false := by
  refine ⟨service _ _ (by decide +kernel), ?_⟩
  decide +kernel

theorem witness_UnbindAndRelease :
    let s := labelled [labelAt 0 .current 0 none, labelAt 1 .faulted 6 none]
    ServiceTakes s 3 ∧ (sv 1 22).confirm = 233 ∧ s.held.labelOf 99 = none ∧
      s.held.labelOf 88 = some (labelAt 0 .current 0 none) ∧
      (∃ m ∈ s.held.labels, m.item = 40011 ∧ m.index ≠ 0) ∧
      (s.items.find 40011).all (fun r => r.pending.isNone) = true ∧
      s.held.labels.Pairwise (fun a b => a.index < b.index) ∧
      (∃ m ∈ s.held.labels, m.item = 40011 ∧ m.state ≠ .faulted) ∧ s.labels.queue = [] ∧ s.labels.exchange = none := by
  refine ⟨service _ _ (by decide +kernel), ?_⟩
  decide +kernel
theorem witness_Label :
    let s := labelled [labelAt 0 .current 0 none]
    ServiceTakes s (sv 1).lane ∧ s.held.labelOf 99 = none ∧ s.held.labelOf 88 = some (labelAt 0 .current 0 none) := by
  refine ⟨service _ _ (by decide +kernel), ?_⟩
  decide +kernel

/-- A guest ADMITTED in slot 0 with one flow, last used 120 s ago, its allowance at the shortest packet. -/
def client : GuestEntry where
  address := some 42
  state := .admitted
  sessionEnd := some 100000
  bucket := 65536
  allowance := 64
  strikes := 2
  ended := none
def flow : GuestFlow := { index := 0, slot := 0, port := 500, dest := 99, destPort := 80, lastUsed := 0 }
def serving : State :=
  let s := ready.onRoster fun r => { r with gateway := some 3 }
  (s.onGuest fun g => { g with table := g.table.set 0 client, apHeard := some 99000 }).onRouter fun r =>
    { r with guestFlows := [flow], carrierHeard := some 99000 }

theorem witness_Carrier :
    serving.start.straps.uplink = true ∧ serving.router.guestFlows.filter (fun x => x.index == 0) = [flow] ∧
      flow.lastUsed + 120000 ≤ (onNow serving 120000).clock.now ∧ State.reset.router.linkUp = false ∧
      State.reset.start.straps.uplink = true ∧ serving.router.linkUp = true ∧ serving.router.authQueue = [] ∧
      serving.router.carrierHeard = some 99000 ∧ 99000 + 3000 ≤ (onNow serving 102000).clock.now ∧
      ((State.reset.onRouter fun r => { r with carrierHeard := some 0 }).router.carrierHeard = some 0) := by decide +kernel

/-- Tag 1 is taken. -/
def oneTag : State := serving.onRouter fun r => { r with authFlows := [⟨1, 5, 0, 9, 100, 80000, none⟩] }

theorem witness_Authorisations :
    let s := authIn oneTag 5 (.authq 5 1 10 100)
    s.line.authInbox = ⟨5, .authq 5 1 10 100⟩ :: [] ∧ (5 : Station) ≠ s.self ∧ s.uplinkUp = true ∧
      s.router.linkFree = false ∧ (∀ f ∈ s.router.authFlows, ¬ (f.origin = 5 ∧ f.lane = 1 ∧ f.basket = 10)) ∧
      (∀ f ∈ s.router.authFlows, f.tag ≠ 2) ∧ (∀ k < 2, 1 ≤ k → ∃ f ∈ s.router.authFlows, f.tag = k) ∧
      State.reset.uplinkUp = false ∧ State.reset.silenced = false ∧ State.reset.slot 0 = .free ∧
      oneTag.router.authFlows.filter (fun g => g.tag == 1) = [⟨1, 5, 0, 9, 100, 80000, none⟩] ∧
      80000 + 20000 ≤ oneTag.clock.now := by decide +kernel

theorem witness_Inbound :
    serving.router.flow (20000 - 20000) = some flow ∧ (serving.guestAt 0).state = .admitted ∧
      (serving.guestAt 0).address = some 42 ∧ (zeros 64).length ≤ (serving.guestAt 0).allowance ∧
      (serving.guestAt 0).allowance < (zeros 65).length ∧ serving.router.flow (20511 - 20000) = none := by decide +kernel

theorem witness_Scheduler :
    let a : AuthItem := ⟨1, 5, 0, 9, 100⟩
    let s := ready.onRouter fun r => { r with linkFree := true, authQueue := [a] }
    let n := ready.onRouter fun r =>
      { r with linkFree := true, turnBegun := true, nightDeficit := 11, nightQueue := [⟨3, 0, true, zeros 4⟩] }
    ready.router.linkFree = false ∧ s.router.linkUp = true ∧ s.router.linkFree = true ∧ s.router.authQueue = a :: [] ∧
      n.router.authQueue = [] ∧ n.router.current = .night ∧ n.router.turnBegun = true ∧
      n.router.nightQueue = ⟨3, 0, true, zeros 4⟩ :: [] ∧ (zeros 4).length + 7 ≤ n.router.nightDeficit := by decide +kernel

/-- The guest in another state. -/
def clientAs (st : GuestState) (allowance : Nat) : State :=
  serving.onGuest fun g => { g with table := g.table.set 0 { client with state := st, allowance := allowance } }

theorem witness_Association :
    serving.start.straps.guestPort = true ∧ serving.serves = true ∧ serving.guestOf 42 = some 0 ∧
      serving.guestOf 43 = none ∧ serving.closed = false ∧ State.reset.closed = true ∧ ready.serves = false ∧
      serving.uplinkUp = true ∧ (serving.onRoster fun r => { r with pressure := 22528 }).roster.pressure = 22528 ∧
      serving.roster.pressure < 22528 ∧ (serving.guestAt 1).state = .free ∧
      (∀ j : Fin 64, j < 1 → (serving.guestAt j).state ≠ .free) ∧ ((clientAs .evicted 64).guestAt 0).state = .evicted ∧
      ((clientAs .exhausted 63).guestAt 0).state = .exhausted ∧ ((clientAs .ended 63).guestAt 0).state = .ended ∧
      (clientAs .ended 63).guestOf 42 = some 0 := by decide +kernel

theorem witness_GuestSessions :
    serving.start.powered = true ∧ (onNow ready 102000).guest.apHeard = none ∧
      (∀ i, (ready.guestAt i).joined = false) ∧ serving.guest.apHeard = some 99000 ∧
      (ready.onStart fun c => { c with straps := { pins with guestPort := false } }).start.straps.guestPort = false ∧
      (serving.guestAt 0).joined = true ∧ (serving.guestAt 0).sessionEnd = some 100000 ∧ 100000 ≤ serving.clock.now ∧
      (onNow serving 99999).clock.now < 100000 ∧ ((clientAs .ended 0).guestAt 0).joined = false ∧
      serving.guest.refillAt ≤ serving.clock.now ∧ (onNow serving 3).clock.now < serving.guest.refillAt := by decide +kernel
theorem witness_ApLinkLost :
    let s := (onNow ready 102000).onGuest fun g => { g with apHeard := some 99000 }
    s.guest.apHeard = some 99000 ∧ 99000 + 3000 ≤ s.clock.now ∧ ∀ i, (s.guestAt i).joined = false := by decide +kernel

/-- The shortest and the longest packet that is not dropped for its length, clear of the ranges and into one. -/
def packet (dest n : Nat) : GuestPacket := { address := 42, port := 500, dest := dest, destPort := 80, data := zeros n }

theorem witness_Outbound :
    serving.serves = true ∧ ready.serves = false ∧ serving.guestOf (packet 99 64).address = some 0 ∧
      (serving.guestAt 0).state = .admitted ∧ (packet 99 64).data.length = 64 ∧ (packet 99 1600).data.length = 1600 ∧
      (∀ k : Fin 8, serving.start.profile.ranges[k.val].covers 99 = false) ∧
      (packet 99 64).data.length ≤ (serving.guestAt 0).bucket ∧ (packet 99 64).data.length ≤ (serving.guestAt 0).allowance ∧
      (serving.guestAt 0).allowance < (packet 99 65).data.length ∧ serving.uplinkUp = true ∧
      serving.router.linkFree = false ∧ serving.router.guestQueue.length < 128 ∧
      serving.router.guestFlows.find? (fun f => f.slot == 0 && f.port == 500 && f.dest == 99 && f.destPort == 80) = some flow ∧
      serving.start.profile.ranges[0].covers 10 = true ∧ serving.start.profile.ranges[0].covers 11 = true ∧
      2 ≤ (serving.guestAt 0).strikes := by decide +kernel
theorem witness_OutboundRate :
    let s := serving.onGuest fun g => { g with table := g.table.set 0 { client with bucket := 63, strikes := 1 } }
    (s.guestAt 0).bucket < (packet 99 64).data.length ∧ (s.guestAt 0).strikes < 2 := by decide +kernel

/-! ## The hypotheses are met: Clock and night -/

def inNight (s : State) (f : Night → Night) : State := s.onNight f
def asState (st : NightState) : State := inNight ready fun n => { n with state := st }

theorem witness_DayAndHours :
    let m := ready.onClock fun c => { c with second := 86399, sub := 1000 }
    m.start.powered = true ∧ m.clock.valid = true ∧ m.clock.second = 86399 ∧ 1000 ≤ m.clock.sub ∧
      ready.clock.second ≠ 86399 ∧ (atSecond ready 28800).clock.second = (prof.openMinute % 1440) * 60 ∧
      (atSecond ready 28800).start.profile = prof ∧
      (atSecond serving 28800).closed = false ∧ (atSecond serving 28800).night.dayDrain = false ∧
      (atSecond serving 79200).clock.second = (prof.closeMinute % 1440) * 60 ∧ (atSecond serving 79200).closed = true := by
  decide +kernel

theorem witness_WindowOpens :
    let s := atSecond ready 3600
    let d := s.onRouter fun r => { r with linkUp := false }
    s.start.powered = true ∧ s.clock.valid = true ∧ s.clock.second = (s.start.profile.w0 % 1440) * 60 ∧
      0 < s.start.profile.d1 ∧ s.start.profile.d1 < s.start.profile.d2 ∧ s.start.profile.w0 ≤ 1439 ∧ s.night.state = .idle ∧
      s.night.dayDrain = false ∧ (∀ i, (s.guestAt i).joined = false) ∧ s.start.profileBad = false ∧ d.uplinkUp = false ∧
      s.uplinkUp = true ∧ s.exchangingPeer = none ∧ s.silenced = false ∧ s.slot 2 = .free ∧ s.line.kept = [] := by
  decide +kernel

theorem witness_Deadlines :
    let s := atSecond (asState .claiming) 9000
    let t := atSecond (asState .following) 18000
    s.clock.second = ((s.start.profile.w0 + s.start.profile.d1) % 1440) * 60 ∧ s.windowOpen = true ∧
      s.night.batch = none ∧ (atSecond ready 9000).windowOpen = false ∧
      t.clock.second = ((t.start.profile.w0 + t.start.profile.d2) % 1440) * 60 ∧ t.night.state = .following ∧
      t.slot 9 = .free ∧ t.line.kept = [] ∧ t.clock.valid = true ∧ t.start.powered = true ∧
      (atSecond ready 18000).night.state = .idle := by decide +kernel

theorem nightWaits (s : State) (n : Station) (p : Payload) (h : s.start.powered = true) :
    NightWaits (nightIn s n p) n p [] := ⟨h, rfl⟩

theorem witness_Claims :
    NightWaits (nightIn (asState .claiming) 2 .claim) 2 .claim [] ∧ (2 : Station) < (asState .claiming).self ∧
      (asState .claiming).self ≤ (4 : Station) ∧ (asState .claiming).slot 2 = .free ∧ (asState .claiming).line.kept = [] ∧
      NightWaits (nightIn (asState .exchanging) 4 .claim) 4 .claim [] ∧ (asState .exchanging).night.state = .exchanging ∧
      (asState .exchanging).silenced = false ∧ (asState .following).night.state ∈ [.idle, .following, .closed] := by
  and_intros <;> first | exact nightWaits _ _ _ rfl | decide +kernel
theorem witness_Held :
    NightWaits (nightIn (asState .exchanging) 2 (.night .held)) 2 (.night .held) [] ∧
      (2 : Station) < (asState .exchanging).self ∧ (asState .exchanging).night.batch = none ∧
      (asState .closed).night.state = .closed := by
  and_intros <;> first | exact nightWaits _ _ _ rfl | decide +kernel
theorem witness_NightClosed :
    NightWaits (nightIn (asState .following) 2 (.night (.closed .failed))) 2 (.night (.closed .failed)) [] ∧
      NightResult.failed ≠ .none ∧ (asState .following).slot 9 = .free ∧ (asState .following).line.kept = [] ∧
      (asState .following).night.state = .following ∧ ready.night.state = .idle := by
  and_intros <;> first | exact nightWaits _ _ _ rfl | decide +kernel
theorem witness_ClaimWait :
    let s := inNight ready fun n => { n with state := .claiming, claimUntil := some 100000 }
    let d := s.onRouter fun r => { r with linkUp := false }
    s.night.state = .claiming ∧ s.night.claimUntil = some 100000 ∧ 100000 ≤ s.clock.now ∧ d.silenced = false ∧
      d.uplinkUp = false ∧ d.slot 2 = .free ∧ d.line.kept = [] ∧
      (s.onLine fun l => { l with sfc := 256 }).silenced = true := by decide +kernel

theorem witness_PricesDone :
    NightWaits (nightIn (asState .following) 2 (.night (.pricesDone 1))) 2 (.night (.pricesDone 1)) [] ∧
      (asState .following).night.state ≠ .claiming ∧ (asState .following).line.itemInbox = [] ∧
      (asState .following).items.applied < 1 ∧ (asState .following).anyPresent = false ∧
      (itemIn (asState .following) 1 (.price aSet)).line.itemInbox ≠ [] := by
  and_intros <;> first | exact nightWaits _ _ _ rfl | decide +kernel
theorem witness_TimeSets :
    NightWaits (nightIn ready 2 (.night (.time 9402 40815))) 2 (.night (.time 9402 40815)) [] ∧
      NightWaits (nightIn ready 2 (.night (.time 9402 40814))) 2 (.night (.time 9402 40814)) [] ∧
      NightWaits (nightIn ready 2 (.night (.time 9402 40816))) 2 (.night (.time 9402 40816)) [] ∧
      ready.night.state ≠ .claiming ∧ ready.clock.valid = true ∧ ready.clock.day = 9402 ∧ ready.clock.second = 40815 ∧
      ready.night.dayDrain = false ∧ (∀ i, (ready.guestAt i).joined = false) ∧
      ¬ (40815 < ready.timeOf .w0 ∧ ready.timeOf .w0 ≤ 40816) ∧ ¬ (40815 < ready.timeOf .d1 ∧ ready.timeOf .d1 ≤ 40816) ∧
      ¬ (40815 < ready.timeOf .d2 ∧ ready.timeOf .d2 ≤ 40816) ∧
      ¬ (40815 < ready.timeOf .openEdge ∧ ready.timeOf .openEdge ≤ 40816) ∧
      ¬ (40815 < ready.timeOf .closeEdge ∧ ready.timeOf .closeEdge ≤ 40816) := by
  and_intros <;> first | exact nightWaits _ _ _ rfl | decide +kernel
/-- An exchange in DRAIN with a batch in hand, and one in a later stage. -/
def exchanging (st : Stage) (f : Night → Night) : State :=
  inNight ready fun n => f { n with state := .exchanging, stage := some st, exchange := some 3 }

theorem witness_BatchWaits :
    let c : Batch := { ownBatch with phase := .collecting 100000 }
    let s := exchanging .drain fun n => { n with batch := some c }
    let t := exchanging .drain fun n => { n with batch := some ownBatch }
    s.night.batch = some c ∧ c.phase = .collecting 100000 ∧ 100000 ≤ s.clock.now ∧ c.collected ≠ [] ∧
      (onNow s 99999).clock.now < 100000 ∧ t.night.batch = some ownBatch ∧ ownBatch.phase = .awaiting 130000 ∧
      ownBatch.collected.getLast? = some ⟨2, zeros 32⟩ ∧ max ownBatch.taken 1 < 2 ∧ ownBatch.target.val = 3 ∧
      t.clock.now < 130000 ∧ 130000 ≤ (onNow t 130000).clock.now ∧ (∃ k ∈ ownBatch.collected, k.seq ≤ ownBatch.taken) ∧
      (∀ k ∈ ({ ownBatch with taken := 0 } : Batch).collected, 0 < k.seq) := by decide +kernel

/-- A PRICE of this station still in slot 4. -/
def priceOut (s : State) : State :=
  s.setSlot 4 (.held .waiting { dest := none, payload := .price aSet, applied := false } 0 false)

theorem witness_PricesStage :
    let s := (exchanging .prices id).onItems fun t => { t with records := [coffee] }
    let t := priceOut (exchanging .prices fun n => { n with stallUntil := some 100000 })
    s.night.state = .exchanging ∧ s.night.stage = some .prices ∧ s.night.pricesEnding = none ∧
      s.items.find 40011 = some coffee ∧ 10 ≤ coffee.version ∧ s.slot 4 = .free ∧ s.line.kept = [] ∧
      s.start.straps.uplink = true ∧ ready.night.state ≠ .exchanging ∧ t.holdsFrame Frame.isPrice = true ∧
      t.night.donePending = false ∧ t.items.applied < 1 ∧ 0 ≤ t.items.applied ∧ t.night.askedAgain = false ∧
      t.night.stallUntil = some 100000 ∧ 100000 ≤ t.clock.now := by decide +kernel
theorem witness_TimeStage :
    let s := exchanging .time fun n => { n with timeUntil := some 100000 }
    s.start.straps.uplink = true ∧ s.night.state = .exchanging ∧ s.night.stage = some .time ∧ s.night.timeTaken = false ∧
      s.clock.valid = true ∧ s.slot 2 = .free ∧ s.line.kept = [] ∧ s.silenced = false ∧
      (inNight s fun n => { n with timeTaken := true }).night.timeTaken = true ∧ s.night.timeUntil = some 100000 ∧
      100000 ≤ s.clock.now ∧ (onNow s 99999).clock.now < 100000 := by decide +kernel
theorem witness_DayDrain :
    let s := inNight ready fun n => { n with restUntil := some 100000 }
    s.start.powered = true ∧ s.night.restUntil = some 100000 ∧ 100000 ≤ s.clock.now := by decide +kernel

/-- The station of the last clause is called: a journal at the high mark, an undrained night, the role held. -/
theorem test_drain_called :
    ((inNight serving fun n => { n with undrained := 1 }).onRoster fun r =>
      { r with
        entries := r.entries.set 1 (some ⟨.present, 100000, beaconOf 0 18432 false .idle⟩) }).drainCalled = true := by
  decide +kernel


/-! ## The hypotheses are met: the line's bookkeeping, the Item Table, pulls -/

/-- A frame on its last attempt, one attempt below SILENCED and at the highest GUARDED count. -/
def lastTry (s : State) (i : Fin 11) (f : Frame) (sfc hfc : Nat) : State :=
  (s.setSlot i (.held .sending f 3 false)).onLine fun l => { l with sfc := sfc, hfc := hfc }

def ownHold : Frame := { dest := none, payload := .hold 40011 3 true, applied := true }

/-- A HOLD of this station on its last attempt, with frames deferred already: none of its item, one of it, and 128 others. -/
def holding (ps : List Payload) : State :=
  (lastTry networked 5 ownHold 247 255).onItems fun t => { t with deferred := ps }
def manyDeferred : State := holding ((List.range 128).map fun n => .shown n 1 3)

theorem witness_UnheardHold :
    ownHold.payload = .hold 40011 (holding []).self true ∧ (holding []).slot 5 = .held .sending ownHold 3 false ∧
      (∀ j, ((holding []).slot j).isSending = true → j = 5) ∧ (holding []).line.alone = false ∧
      (holding []).line.kept = [] ∧ (holding []).line.beaconKept = false ∧ (holding []).line.sfc < 248 ∧
      manyDeferred.items.deferred.length = 128 ∧ (∀ m j, Payload.hold 40011 m j ∉ manyDeferred.items.deferred) ∧
      (holding [.hold 40011 3 false]).items.deferred = [] ++ .hold 40011 3 false :: [] := by decide +kernel

/-- Frames of the Item Table in slot 4 (WAITING), slot 5 (SENDING) and kept, all for item 40011. -/
def threeHolds : State :=
  ((networked.setSlot 4 (.held .waiting ownHold 2 false)).setSlot 5 (.held .sending ownHold 1 false)).onLine fun l =>
    { l with kept := [.frame ownHold, .note .heldLost ⟨true, 9402, 5⟩ false] }

theorem witness_Withdraw :
    threeHolds.slot 4 = .held .waiting ownHold 2 false ∧ threeHolds.slot 5 = .held .sending ownHold 1 false ∧
      (4 : Fin 11) ∈ Owner.item.slots ∧ (6 : Fin 11) ∉ Owner.item.slots ∧
      threeHolds.line.kept.all (fun d => d.owner != .item || d == .frame ownHold) = true := by decide +kernel

/-- One spell before the restart, as a run leaves it: LINE_SILENCED set with its note unsent, flag 6 unsent too, three frames
deferred. -/
def restarting (s : State) : State :=
  let t := (s.onLine fun l => { l with sfc := 256, quietCount := 31 }).onItems fun t =>
    { t with deferred := [.shown 1 7 3, .hold 1 3 false, .shown 2 7 3] }
  (t.raise .lineSilenced).onFaults fun r =>
    { r with flags := r.flags.set 6 { raised := some ⟨true, 9402, 40000⟩, unsent := some ⟨true, 9402, 40000⟩ } }

theorem witness_Restart :
    let s := restarting ready
    let t := restarting networked
    s.silenced = true ∧ s.line.quietCount = 31 ∧ s.start.phase ≠ .pull ∧ s.roster.gateway ≠ some s.self ∧
      s.items.pull = none ∧ (∀ p ∈ s.items.deferred, p.owner = .item) ∧ (∀ i, s.slot i = .free) ∧ s.line.kept = [] ∧
      s.anyPresent = false ∧ unsentNotes s = [(.lineSilenced, ⟨true, 9402, 40815⟩), (.increaseOverdue, ⟨true, 9402, 40000⟩)] ∧
      t.firstTarget = some 1 ∧ t.anyPresent = true ∧ t.items.pull = none ∧ t.roster.gateway ≠ some t.self := by
  decide +kernel

/-- After the restart LINE_SILENCED's note stands in slot 3, no longer set, its mark cleared; the next note waits with its mark
(R14, R186). -/
theorem test_restart :
    let t := go .quietSpell (restarting ready)
    t.slot 3 = placed none (.note { flag := .lineSilenced, raised := ⟨true, 9402, 40815⟩, stillSet := false }) ∧
      t.faults.flags[2] = { raised := none, unsent := none } ∧ t.line.kept.length = 2 ∧
      (t.faults.flags[6]).unsent = some ⟨true, 9402, 40000⟩ := by decide +kernel

/-- A segment of a journal record, and the one marked EMPTY. -/
def cellOf (seq index : Nat) (lastSeg lastRecord : Bool) : Jseg :=
  { empty := false, lastSeg := lastSeg, lastRecord := lastRecord, seq := seq, index := index, data := zeros 32 }
def noSegment : Jseg := { empty := true, lastSeg := false, lastRecord := false, seq := 0, index := 0, data := [] }

/-- One payload of each kind that Table 1-3 files or drops. -/
def kinds : List Payload :=
  [.shown 40011 11 5, .hold 40011 5 true, .chunk { status := .busy, records := [], applied := 0 }, .pull, .jpull 16, .jrel 4,
    .claim, .night .held, .authq 1 0 9 100, .autha 0 9 .approved, .note ⟨.heldLost, ⟨true, 9402, 5⟩, true⟩,
    .note ⟨.itemRefused, ⟨true, 9402, 5⟩, true⟩, .jseg (cellOf 4 0 true true), .jseg noSegment]

/-- Every one of them reads back, sent to this station and sent to all. -/
theorem witness_FramesAreFiled :
    kinds.all (fun p => goodReceive (claimOf p) (frameOf (some 3) p) &&
      readFrame (claimOf p) (frameOf (some 3) p) == some (1, some 3, p) && goodReceive (claimOf p) (frameOf none p) &&
      readFrame (claimOf p) (frameOf none p) == some (1, none, p)) = true := by decide +kernel

/-- The gateway itself, its inboxes one short of full, and full; the SERVICE queue one short. -/
def gateway : State := ready.onRoster fun r => { r with gateway := some 3 }
def filled (more : Nat) : State := gateway.onLine fun l =>
  { l with
    journalInbox := List.replicate (7 + more) ⟨1, .jpull 1⟩, nightInbox := List.replicate (7 + more) ⟨1, .claim⟩
    authInbox := List.replicate (15 + more) ⟨1, .autha 0 9 .approved⟩ }
def item (n : Nat) : Part := { kind := 10, index := 0, last := true, data := zeros n }

theorem witness_Inboxes :
    (filled 0).line.journalInbox.length < 8 ∧ 8 ≤ (filled 1).line.journalInbox.length ∧
      (filled 0).line.nightInbox.length < 8 ∧ 8 ≤ (filled 1).line.nightInbox.length ∧
      (filled 0).line.authInbox.length < 16 ∧ 16 ≤ (filled 1).line.authInbox.length ∧
      (filled 0).roster.gateway = some (filled 0).self ∧ networked.roster.gateway ≠ some networked.self ∧
      onlyHere .pull = true ∧ ready.pullOutstanding 1 = false ∧ gateway.router.linkFree = false ∧
      (gateway.onRouter fun r => { r with serviceQueue := List.replicate 15 (item 13) }).router.serviceQueue.length < 16 := by
  decide +kernel

/-- An increase outstanding at stations 3 and 5, one outstanding at 3 alone, and a blocked item with an increase pending. -/
def bothWait : ItemRecord := { waitingTea with pending := some ⟨11, both, true⟩ }
def otherWaits : ItemRecord := { waitingTea with pending := some ⟨11, 0x08#8, true⟩ }

theorem witness_HoldLeaves :
    hasStation both 5 = true ∧ dropStation both 5 ≠ 0#8 ∧ hasStation (0x08#8) 5 = false ∧ bothWait.blocked = false ∧
      (withTea bothWait).items.find 50233 = some bothWait ∧ (withTea otherWaits).items.find 50233 = some otherWaits ∧
      InboxPlain (itemIn (withTea bothWait) 1 (.hold 50233 5 false)) := by
  and_intros <;> first | exact ⟨rfl, rfl⟩ | decide +kernel

/-- The pull from station 1 with a touched code, and a CHUNK of the tea. -/
def pullWith (p : Pull) (r : ItemRecord) (records : List ItemRecord) : State :=
  itemIn (networked.onItems fun t => { t with pull := some p, records := records }) 1
    (.chunk { status := .records, records := [r], applied := 0 })

theorem witness_ChunksReplace :
    let s := pullWith aPull (tea 0 none) [tea 0 none]
    InboxPlain s ∧ s.held.bound 50233 = [] ∧ s.items.pull = some aPull ∧ 50233 ∈ ({ aPull with touched := [50233] } : Pull).touched ∧
      50233 ∉ aPull.touched ∧ s.items.find 50233 = some (tea 0 none) ∧
      ({ tea 0 none with version := 9 } : ItemRecord).version < (tea 0 none).version ∧
      (tea 0 none).version ≤ (tea 0 none).version ∧ (tea 0 none).pending = none := by
  exact ⟨⟨rfl, rfl⟩, by decide +kernel⟩

/-- A table with no place left. -/
def fullTable : List ItemRecord := List.replicate 16384 coffee
theorem witness_FullTable : 16384 ≤ fullTable.length ∧ 50233 ≠ coffee.code := by
  exact ⟨Nat.le_of_eq List.length_replicate.symm, by decide⟩

/-- The touched list one short of full, and full. -/
def touching (n : Nat) (again : Bool) : Pull := { aPull with touched := List.range n, repeated := again }

theorem witness_LiveFrames :
    let s := itemIn ((withTea (tea 0 none)).onItems fun t => { t with pull := some (touching 128 false) }) 2 (.hold 50233 5 true)
    InboxPlain s ∧ s.items.find 50233 = some (tea 0 none) ∧ hasStation (tea 0 none).holders 5 = false ∧
      (touching 127 false).touched.length < 128 ∧ 128 ≤ (touching 128 true).touched.length ∧
      50233 ∉ (touching 128 false).touched ∧ s.silenced = false ∧ s.slot 7 = .free ∧ s.line.kept = [] := by
  refine ⟨⟨rfl, rfl⟩, ?_⟩
  decide +kernel

theorem witness_Busy :
    let s := withPeer pulling 4 .present 100000 (beaconOf 0 0 true .idle)
    s.silenced = false ∧ s.slot 7 = .free ∧ s.line.kept = [] ∧ s.present 4 = true ∧
      hasStation (addStation aPull.tried aPull.target) 4 = false ∧
      ∀ k : Station, k < 4 → s.present k = false ∨ hasStation (addStation aPull.tried aPull.target) k = true := by
  decide +kernel

/-- An end mark at A 11 with the mark 12 seen; the coffee delivered, held here in its record or not. -/
def ending (p : Pull) (holders : StationSet) (ls : List Label) : State :=
  { networked with
    items := { networked.items with pull := some p, records := [{ coffee with holders := holders }], seen := [12] }
    held := { networked.held with labels := ls }
    line := { networked.line with
      itemInbox := [⟨1, .chunk { status := .endAlone, records := [], applied := 11 }⟩] } }
def delivered : Pull := { aPull with delivered := [40011] }

theorem witness_EndMark :
    let s := ending delivered 0 []
    InboxPlain s ∧ s.items.pull = some delivered ∧ s.start.phase = .ready ∧ s.items.repairMark = false ∧
      s.labels.queue = [] ∧ s.line.kept = [] ∧ s.held.labels = [] ∧ s.items.seen = [11 + 1] ∧
      (∀ r ∈ s.items.records, hasStation r.holders s.self = false) ∧ (12 + 1) ∉ s.items.seen ∧ s.silenced = false ∧
      s.line.alone = false ∧ s.slot 4 = .free ∧ delivered.unsure = false ∧ delivered.full = false ∧
      hasStation (0x08#8) (ending delivered 0x08 []).self = true ∧ (ending delivered 0x08 []).held.labels = [] := by
  refine ⟨⟨rfl, rfl⟩, ?_⟩
  decide +kernel

theorem witness_Serving :
    goodReceive (claimOf .pull) (frameOf (some 3) .pull) = true ∧
      readFrame (claimOf .pull) (frameOf (some 3) .pull) = some (1, some 3, .pull) ∧ stocked.slot 10 = .free ∧
      stocked.items.pull = none ∧ stocked.items.serving = none ∧ stocked.line.kept = [] ∧
      (∀ r ∈ stocked.items.records, 0 < r.code) ∧ stocked.items.records.length ≤ 6 ∧ pulling.items.pull ≠ none ∧
      (stocked.onItems fun t => { t with serving := some ⟨5, 0⟩ }).items.serving = some ⟨5, 0⟩ := by decide +kernel

/-- A CHUNK on its last attempt, one attempt below GUARDED. -/
def chunkOut (status : ChunkStatus) (sfc : Nat) : State :=
  (lastTry networked 10 { dest := some 5, payload := .chunk { status := status, records := [], applied := 0 }, applied := false }
    sfc 95).onItems fun t => { t with serving := some ⟨5, 20100⟩ }

theorem witness_ChunkOutcomes :
    let s := chunkOut .records 95
    (∀ j, (s.slot j).isSending = true → j = 10) ∧ s.line.alone = false ∧ s.line.kept = [] ∧ s.line.beaconKept = false ∧
      s.line.sfc < 96 ∧ s.line.hfc < 96 ∧ (chunkOut .recordsEnd 87).line.sfc < 88 ∧ s.items.serving = some ⟨5, 20100⟩ := by
  decide +kernel

/-! ## The hypotheses are met: refusals, authorisations, releases, labels -/

theorem witness_State :
    Instr.request (.scan (rq 2) 40011 1) = some (rq 2, 2) ∧ (ready.lane 0).basket.state ∉ takenIn 2 ∧
      Instr.request (.voidLine (rq 2 4) 1) = some (rq 2 4, 4) ∧ (rq 2 4).confirm + 4 = 255 ∧
      Instr.request (.cancel (rq 2 10)) = some (rq 2 10, 10) ∧ (paid.lane 0).basket.state ∉ takenIn 10 ∧
      (asked.lane 0).basket.state ∈ takenIn 10 := by decide +kernel

/-- The quantities next to the limits of R57, and 64 lines. -/
theorem witness_ScanRefusals :
    TillTakes opened (rq 2).lane [.opened] ∧ opened.items.find 1 = none ∧
      ((opened.lane 0).basket.lockFor coffee).kind ≠ .weighed ∧ (99 : Nat) < 100 ∧ (30000 : Nat) < 30001 ∧
      9999999 < lineAmount .unit ((opened.lane 0).basket.lockFor dear).headline 11 ∧
      (opened.items.records.all fun r => !r.blocked) = true := by
  and_intros <;> first | exact till _ _ _ (by decide +kernel) | decide +kernel

/-- The gateway with a totalled basket, and with every tag taken. -/
def ownTotalled : State :=
  drive [.openBasket (rq 1), .scan (rq 2) 40011 4, .weigh (rq 3) 20100 1234, .total (rq 4)]
    (gateway.onItems fun t => { t with records := [bananas, coffee] })
def tags (n : Nat) : List AuthFlow := (List.range n).map fun t => ⟨t + 1, 5, 0, 9, 100, 80000, none⟩
def allTags : State := ownTotalled.onRouter fun r => { r with authFlows := tags 64 }

theorem witness_OwnCard :
    TillTakes ownTotalled (rq 5).lane [.totalled, .tendering] ∧ (ownTotalled.lane 0).basket.remaining = 2298 ∧
      ownTotalled.roster.gateway = some ownTotalled.self ∧ ownTotalled.uplinkUp = true ∧
      ownTotalled.router.linkFree = false ∧ ownTotalled.router.authFlows = [] ∧ allTags.slot 0 = .free ∧
      allTags.slot 1 = .free ∧ (∀ k, k ≤ 64 → 1 ≤ k → ∃ f ∈ allTags.router.authFlows, f.tag = k) ∧
      (∀ f ∈ allTags.router.authFlows, ¬ (f.origin = allTags.self ∧ f.lane = 0 ∧ f.basket = 1)) := by
  and_intros <;> first | exact till _ _ _ (by decide +kernel) | decide +kernel

/-- An AUTHQ of the basket on its last attempt. -/
def asking : State :=
  lastTry (drive [.card (rq 5) 2297] netTotalled) 0
    { dest := some 1, payload := .authq 3 0 1 2297, applied := false } 87 95

theorem witness_AuthqOutcomes :
    (∀ j, (asking.slot j).isSending = true → j = 0) ∧ asking.slot 1 = .free ∧ (asking.lane 0).auth = some (entry 2297) ∧
      (asking.lane 0).inFlight = some 5 ∧ (asking.lane 0).basket.state = .authWait ∧ asking.line.kept = [] ∧
      asking.line.beaconKept = false ∧ asking.line.alone = false ∧ asking.line.sfc < 88 ∧ asking.line.hfc < 96 ∧
      (2297 : Int) < (asking.lane 0).basket.remaining ∧ 2297 ≤ asking.start.profile.floorLimit := by decide +kernel

theorem witness_NoRoute : AuthWaits (authIn part 1 (.autha 0 1 .declinedNoRoute)) 0 (entry 2297) 5 ∧
    (2297 : Int) < (part.lane 0).basket.remaining ∧ 2297 ≤ part.start.profile.floorLimit ∧
    (part.onStart fun c => { c with profile := { prof with floorLimit := 2296 } }).start.profile.floorLimit < 2297 := by
  and_intros <;> first | exact authWaits _ _ _ (by decide +kernel) | decide +kernel

theorem witness_LateAnswers :
    lateOne.lanePresent 0 = true ∧ (lateOne.lane 0).auth = none ∧ (lateOne.lane 0).late = [] ++ ⟨1, 2298, .none, 40000⟩ :: [] ∧
      (authIn lateOne 1 (.autha 0 1 .approved)).line.authInbox = ⟨1, .autha 0 1 .approved⟩ :: [] ∧
      sameClass .none .approved = false ∧ sameClass .approvedStandin .approved = true ∧ lateOne.noteFits = true := by
  decide +kernel

/-- The own journal pulled and sent through record 2; a batch of station 5 with its first record taken, and with none. -/
def peerBatch (taken : Nat) : Batch := { ownBatch with target := 5, taken := taken }

theorem witness_Releases :
    (sent .self).slot 9 = .free ∧ (sent .self).line.kept = [] ∧ (1 = if ∃ c ∈ ownBatch.collected, c.seq ≤ ownBatch.taken then
      ownBatch.taken else 0) ∧ (peerBatch 1).target ≠ ready.self ∧ ready.slot 8 = .free ∧ ready.silenced = false ∧
      (∃ c ∈ (peerBatch 1).collected, c.seq ≤ (peerBatch 1).taken) ∧
      (∀ c ∈ (peerBatch 0).collected, (peerBatch 0).taken < c.seq) := by decide +kernel

/-- Two JRELs noted, the second one's frame in slot 8. -/
def releasing : State :=
  (lastTry networked 8 { dest := some 5, payload := .jrel 4, applied := false } 87 95).onNight fun n =>
    { n with releases := [⟨5, 2, [(2, 2)], false⟩, ⟨5, 4, [(2, 2), (3, 3), (4, 4)], false⟩] }

theorem witness_CarriedRelease :
    (∀ j, (releasing.slot j).isSending = true → j = 8) ∧ releasing.night.releases = [⟨5, 2, [(2, 2)], false⟩] ++ ⟨5, 4, [(2, 2), (3, 3), (4, 4)], false⟩ :: [] ∧
      (∀ x ∈ [(⟨5, 2, [(2, 2)], false⟩ : Release)], x.station ≠ 5 ∨ x.seq ≠ 4) ∧ releasing.line.kept = [] ∧
      releasing.line.beaconKept = false ∧ releasing.line.alone = false ∧ releasing.line.sfc < 88 ∧ releasing.line.hfc < 96 := by
  decide +kernel

/-- One label, the coffee's, in a state. -/
def oneLabel (st : LabelState) : State :=
  { networked with held := { networked.held with labels := [labelAt 0 st 2 none] } }

theorem witness_Rebind :
    let s := oneLabel .awaiting
    ServiceTakes s 3 ∧ s.start.straps.labelRadio = true ∧ s.items.find 20100 = some bananas ∧ bananas.blocked = false ∧
      s.held.labelOf 88 = some (labelAt 0 .awaiting 2 none) ∧ s.held.labels.Pairwise (fun a b => a.index < b.index) ∧
      coffee.pending = none ∧ s.silenced = false ∧ s.line.alone = false ∧ s.slot 4 = .free ∧ s.slot 5 = .free ∧
      s.line.kept = [] ∧ (true = decide ((labelAt 0 .awaiting 2 none).item ≠ 20100 ∧
        ∀ m ∈ s.held.labels, m.item = 40011 → m.index = 0)) ∧ (true = decide (40011 ≠ 20100 ∧ s.held.bound 20100 = [])) := by
  refine ⟨service _ _ (by decide +kernel), ?_⟩
  decide +kernel

theorem witness_LastLabel :
    let s := oneLabel .faulted
    ServiceTakes s 3 ∧ s.held.labelOf 88 = some (labelAt 0 .faulted 2 none) ∧ (sv 1 22).confirm = 233 ∧
      (∀ m ∈ s.held.labels, m.item = 40011 → m.index = 0) ∧ s.held.bound 40011 ≠ [] ∧ s.labels.queue = [] ∧
      s.labels.exchange = none ∧ (∀ l ∈ s.held.labels, l.item = 40011 → l.state = .faulted) ∧ s.silenced = false ∧
      s.line.alone = false ∧ s.slot 4 = .free ∧ s.line.kept = [] := by
  refine ⟨service _ _ (by decide +kernel), ?_⟩
  decide +kernel

theorem witness_NoTagFree :
    let s := authIn (gateway.onRouter fun r => { r with authFlows := tags 64 }) 5 (.authq 5 1 9 100)
    s.line.authInbox = ⟨5, .authq 5 1 9 100⟩ :: [] ∧ (5 : Station) ≠ s.self ∧ s.uplinkUp = true ∧ s.silenced = false ∧
      s.slot 0 = .free ∧ s.line.kept = [] ∧
      (∀ f ∈ s.router.authFlows, ¬ (f.origin = 5 ∧ f.lane = 1 ∧ f.basket = 9)) ∧
      (∀ tag, tag ≤ 64 → 1 ≤ tag → ∃ f ∈ s.router.authFlows, f.tag = tag) ∧
      (authIn oneTag 5 (.authq 5 0 9 100)).router.authFlows = [⟨1, 5, 0, 9, 100, 80000, none⟩] ∧
      oneTag.router.linkFree = false := by decide +kernel

/-! ## The hypotheses are met: the scheduler, guests, windows and takeover, times, batches, reports, day drains -/

/-- The link free, with the given queues and deficits, the turn NIGHT's. -/
def turn (begun : Bool) (night service : List Part) (guest : List GuestItem) (deficit : Nat) : State :=
  ready.onRouter fun r =>
    { r with
      linkFree := true, current := .night, turnBegun := begun, nightQueue := night, serviceQueue := service
      guestQueue := guest, nightDeficit := deficit, guestDeficit := deficit, serviceDeficit := deficit }

theorem witness_Turns :
    headOf (turn true [item 4] [] [] 11).router .night = some (.office (item 4), 11, (turn true [] [] [] 11).router) ∧
      (turn false [item 4000] [] [] 7).router.turnBegun = false ∧ 4007 ≤ 7 + quantumOf ready .night ∧
      headOf (turn true [] [] [⟨0, zeros 1500⟩] 0).router .night = none ∧
      headOf (turn true [] [] [⟨0, zeros 1500⟩] 0).router .guest =
        some (.guest 20000 0 0 (zeros 1500), 1500, (turn true [] [] [] 0).router) ∧
      1500 ≤ 0 + quantumOf ready .guest ∧ (0 : Nat) < 11 ∧ (∀ k, headOf (turn true [] [] [] 0).router k = none) := by
  refine ⟨by decide +kernel, by decide +kernel, by decide +kernel, rfl, by decide +kernel, by decide +kernel, by decide, ?_⟩
  intro k
  cases k <;> rfl

theorem witness_AccessPoint :
    serving.guest.apHeard = some 99000 ∧ (onNow serving 101999).clock.now < 99000 + 3000 ∧
      99000 + 3000 ≤ (onNow serving 102000).clock.now ∧ (∃ i, (serving.guestAt i).joined = true) ∧
      serving.guestOf 43 = none ∧ ready.serves = false ∧ (∀ i, (ready.guestAt i).joined = false) := by decide +kernel

theorem witness_HeldIdle :
    NightWaits (nightIn ready 2 (.night .held)) 2 (.night .held) [] ∧ ready.night.state = .idle ∧ ready.clock.valid = true ∧
      ready.night.dayDrain = false ∧ (∀ i, (ready.guestAt i).joined = false) ∧ ready.absent 2 = false ∧
      State.reset.clock.valid = false ∧ State.reset.night.state = .idle ∧
      (withPeer ready 2 .absent 5 (beaconOf 0 0 true .idle)).absent 2 = true ∧ ready.uplinkUp = true ∧
      ready.start.profileBad = false ∧ ready.silenced = false ∧ ready.slot 2 = .free ∧ ready.line.kept = [] ∧
      (asState .exchanging).self < (4 : Station) := by
  refine ⟨nightWaits _ _ _ rfl, ?_⟩
  decide +kernel

/-- A follower of station 1, which is about to become ABSENT. -/
def following (d1 : Bool) : State :=
  inNight (withPeer stocked 1 .quiet 90000 (beaconOf 0 100 true .exchanging)) fun n =>
    { n with state := .following, exchange := some 1, d1 := d1 }

theorem witness_Takeover :
    (following false).entry 1 = some ⟨.quiet, 90000, beaconOf 0 100 true .exchanging⟩ ∧
      90000 + 10000 ≤ (following false).clock.now ∧ (following false).items.serving = none ∧
      (following false).journal = none ∧ (following false).night.batch = none ∧ (following false).night.exchange = some 1 ∧
      (following false).night.d1 = false ∧ (following true).night.d1 = true ∧ (following false).uplinkUp = true ∧
      (following false).start.profileBad = false ∧ (following false).silenced = false ∧ (following false).slot 2 = .free ∧
      (following false).line.kept = [] := by decide +kernel

/-- A Clock that becomes valid: the last second before deadline 2, and deadline 2 itself. -/
def unset (up : Bool) : State :=
  (ready.onClock fun c => { c with valid := false }).onRouter fun r => { r with linkUp := up }

theorem witness_BecomesValid :
    NightWaits (nightIn (unset false) 2 (.night (.time 9402 17999))) 2 (.night (.time 9402 17999)) [] ∧
      (unset false).night.state = .idle ∧ (unset false).clock.valid = false ∧ (unset false).uplinkUp = false ∧
      (17999 + 86400 - (unset false).start.profile.w0 * 60) % 86400 < (unset false).start.profile.d2 * 60 ∧
      (unset false).start.profile.d2 * 60 ≤ (18000 + 86400 - (unset false).start.profile.w0 * 60) % 86400 ∧
      (unset false).night.dayDrain = false ∧ (∀ i, ((unset false).guestAt i).joined = false) := by
  refine ⟨nightWaits _ _ _ rfl, ?_⟩
  decide +kernel

/-- A setting to W0 exactly and to the last second before deadline 1; from the last second before W0. -/
theorem witness_PassesW0 :
    let s := atSecond ready 3599
    s.clock.second < s.start.profile.w0 * 60 ∧ s.start.profile.w0 * 60 ≤ 3600 ∧
      8999 < (s.start.profile.w0 + s.start.profile.d1) * 60 ∧ s.start.profile.d1 < s.start.profile.d2 ∧
      (∀ e ∈ allTimes, e ≠ .w0 → ¬ (s.clock.second < s.timeOf e ∧ s.timeOf e ≤ 8999)) ∧ s.night.state = .idle ∧
      s.night.dayDrain = false ∧ (∀ i, (s.guestAt i).joined = false) ∧ s.start.profileBad = false ∧ s.uplinkUp = true ∧
      s.exchangingPeer = none ∧ s.silenced = false ∧ s.slot 2 = .free ∧ s.line.kept = [] := by decide +kernel

/-- From the close minute to the last second before W0 of the next day; a day back, and 32,768 days back. -/
theorem witness_OtherDays :
    let s := atSecond ready 79200
    (9403 = s.clock.day + 1 ∧ 3599 < s.clock.second) ∧ (∀ i, (s.guestAt i).state = .free) ∧
      (∀ e ∈ allTimes, e ≠ .midnight → s.timeOf e ≤ s.clock.second ∧ 3599 < s.timeOf e) ∧
      (s.clock.day = (9401 + 1) % 65536 ∧ s.clock.day = (42170 + 32768) % 65536) := by decide +kernel

/-- A setting from the last second of the open hours to the close minute, one client joined. -/
theorem witness_PassesClose :
    let s := atSecond serving 79199
    s.clock.second < s.timeOf .closeEdge ∧ s.timeOf .closeEdge ≤ 79200 ∧
      (∀ e ∈ allTimes, e ≠ .closeEdge → ¬ (s.clock.second < s.timeOf e ∧ s.timeOf e ≤ 79200)) ∧
      (s.guestAt 0).joined = true ∧ s.night.dayDrain = false ∧ s.night.state ≠ .claiming := by decide +kernel

theorem witness_JtakenReleases :
    let s := exchanging .drain fun n => { n with batch := some (peerBatch 1) }
    s.night.batch = some (peerBatch 1) ∧ (peerBatch 1).phase = .awaiting 130000 ∧
      (peerBatch 1).collected.getLast? = some ⟨2, zeros 32⟩ ∧ 2 ≤ max (peerBatch 1).taken 2 ∧ (peerBatch 1).target ≠ s.self ∧
      (peerBatch 1).targetLost = false ∧ s.night.d1 = false ∧ s.night.dayDrain = false ∧ s.router.linkUp = true ∧
      s.silenced = false ∧ s.slot 8 = .free ∧ s.line.kept = [] := by decide +kernel

/-- A collection of station 1 with record 4 complete, and with a part of record 5. -/
def collecting (n : Station) (cs : List Collected) (p : Option PartRecord) : State :=
  exchanging .drain fun x => { x with
    batch := some { freshBatch n with phase := .collecting 100000, collected := cs, part := p } }
def four : Collected := { seq := 4, data := zeros 32 }

theorem witness_Segments :
    let s := collecting 1 [four] none
    let t := collecting 1 [four] (some { seq := 5, next := 1, data := zeros 32 })
    s.line.sfc < 256 ∧ (1 : Station) ≠ s.self ∧ (cellOf 5 0 true false).index = 0 ∧ [four].getLast? = some four ∧
      (cellOf 5 0 true false).seq = four.seq + 1 ∧ (cellOf 5 1 false false).index = 1 ∧
      t.night.batch = some { freshBatch 1 with
        phase := .collecting 100000, collected := [four], part := some { seq := 5, next := 1, data := zeros 32 } } ∧
      (cellOf 6 0 true true).seq ≠ four.seq + 1 ∧ (cellOf 5 2 true true).index ≠ 1 ∧ noSegment.empty = true ∧
      s.night.dayDrain = false ∧ s.night.d1 = false ∧ s.slot 8 = .free ∧ s.uplinkUp = true ∧ (2 : Station).val = (1 : Station).val + 1 ∧
      (withPeer s 2 .quiet 90000 (beaconOf 0 0 true .idle)).entry 2 = some ⟨.quiet, 90000, beaconOf 0 0 true .idle⟩ ∧
      (collecting 7 [] none).night.batch = some { freshBatch 7 with phase := .collecting 100000 } := by decide +kernel

/-- A JSEG of station 7, the last of the walk. -/
theorem witness_LastStation :
    goodReceive (BitVec.ofNat 6 47) (frameBytes (BitVec.ofNat 6 47) (some 3) (.jseg noSegment)) = true ∧
      readFrame (BitVec.ofNat 6 47) (frameBytes (BitVec.ofNat 6 47) (some 3) (.jseg noSegment)) =
        some (7, some 3, .jseg noSegment) := by decide +kernel

theorem witness_CollectionsFail :
    let s := inNight (collecting 7 [] none) fun n => { n with attempts := 2 }
    let t := inNight (collecting 7 [] none) fun n => { n with attempts := 1 }
    s.night.attempts = 2 ∧ t.night.attempts < 2 ∧ 100000 ≤ s.clock.now ∧ s.night.d1 = false ∧ s.night.dayDrain = false ∧
      (7 : Station) ≠ s.self ∧ t.uplinkUp = true ∧ t.silenced = false ∧ t.slot 8 = .free ∧ t.line.kept = [] ∧
      (freshBatch 7).linkLost = false ∧ (freshBatch 7).targetLost = false := by decide +kernel

/-- The claim wait ends in a branch whose one peer is ABSENT. -/
theorem witness_EmptyBranch :
    let s := inNight (withPeer ready 5 .absent 5 (beaconOf 0 0 true .idle)) fun n =>
      { n with state := .claiming, claimUntil := some 100000 }
    s.night.claimUntil = some 100000 ∧ 100000 ≤ s.clock.now ∧ s.silenced = false ∧ s.uplinkUp = true ∧ s.night.d1 = false ∧
      s.night.dayDrain = false ∧ s.slot 2 = .free ∧ s.slot 9 = .free ∧ s.line.kept = [] ∧ s.held.records = [] ∧
      ∀ n ∈ allStations, (s.entry n).all (fun e => e.presence == .absent) = true := by decide +kernel

/-- The report of TIME's end, with just room for its parts, and with one place too few. -/
def reporting (used : Nat) : State :=
  (exchanging .time fun n => { n with timeUntil := some 100000 }).onRouter fun r =>
    { r with linkUp := false, serviceQueue := List.replicate used (item 0) }

theorem witness_Reports :
    (reporting 15).router.serviceQueue.length + (reportOf (reporting 15) .part).parts.length = 16 ∧
      16 < (reporting 16).router.serviceQueue.length + (reportOf (reporting 16) .part).parts.length ∧
      (reporting 15).night.timeUntil = some 100000 ∧ 100000 ≤ (reporting 15).clock.now ∧ (reporting 15).night.waiting = [] ∧
      (reporting 15).night.reports = [] ∧ (reporting 15).router.backlog = [] ∧ (reporting 15).silenced = false ∧
      (reporting 15).slot 2 = .free ∧ (reporting 15).slot 9 = .free ∧ (reporting 15).line.kept = [] ∧
      (reporting 15).roster.gateway ≠ some (reporting 15).self := by decide +kernel

/-- The gateway after an undrained night, its rest over, with station 5 at the high mark and station 1 below it. -/
def called : State :=
  let s := withPeer (withPeer gateway 5 .present 90000 (beaconOf 0 18432 true .idle)) 1 .present 90000 (beaconOf 0 18431 true .idle)
  inNight s fun n => { n with undrained := 1, restUntil := some 100000 }

theorem witness_DayDrainBegins :
    called.drainCalled = true ∧ called.night.restUntil = some 100000 ∧ 100000 ≤ called.clock.now ∧
      called.night.state ≠ .exchanging ∧ called.night.waiting = [] ∧ called.night.reports = [] ∧ called.router.backlog = [] ∧
      called.router.linkUp = true ∧ called.router.linkFree = false ∧ (∀ i, (called.guestAt i).joined = false) ∧
      called.silenced = false ∧ called.slot 8 = .free ∧ called.line.kept = [] ∧ called.uplinkUp = true ∧
      (5 : Station) ≠ called.self ∧ called.present 5 = true ∧ 18432 ≤ called.figure 5 ∧
      ∀ m : Station, m < 5 → (m ≠ called.self ∧ called.present m = false) ∨ called.figure m < 18432 := by decide +kernel

theorem witness_DayDrainEnds :
    let s := atSecond (inNight called fun n => { n with dayDrain := true, walk := some 5 }) 79200
    s.night.dayDrain = true ∧ s.openHours = false ∧ s.clock.second = (s.start.profile.closeMinute % 1440) * 60 ∧
      (∀ i, (s.guestAt i).joined = false) ∧ s.silenced = false ∧ s.line.kept = [] ∧ s.night.releases = [] ∧ s.slot 8 = .free ∧
      s.clock.valid = true ∧ (peerBatch 0).target ≠ s.self := by decide +kernel

/-! ## What the new clauses give, on one state each -/

/-- A JREL that is CARRIED with no batch of its station in hand counts what it named (R164, notes/assumptions/66.md). -/
theorem test_release_counted :
    ((go (.attemptEnd (.sent true false)) releasing).night.drain[5], (go (.attemptEnd (.sent true false)) releasing).night.releases) =
      ({ outcome := .none, records := 3, cells := 9 }, [⟨5, 2, [(2, 2)], false⟩]) := by decide +kernel

/-- A setting from 21:59:59 to 08:01:00 of the next day passes the close minute: the client's session has ended (R154). -/
theorem test_close_passed :
    ((go .nightTime (nightIn (atSecond serving 79199) 2 (.night (.time 9403 28860)))).guestAt 0).joined = false := by
  decide +kernel

/-- A count of running time at its last value goes back to 0 (R182: 48 bits). -/
theorem test_running_time_wraps :
    (match step (onNow ready 281474976710655) with | .next t => t.clock.now | _ => 1) = 0 := by decide +kernel


/-! ## The hypotheses are met: the clauses of the line, the Item Table and the lanes that came last -/

/-- A warm start by RESET_PIN: two markers with room for both notes, and none left for the notes in cells or numbers. -/
theorem witness_WarmClauses :
    (Instr.resetPin pins true = .resetPin pins true ∧ ready.start.powered = true) ∧
      [((0 : Lane), 7), (2, 4117)] = allLanes.filterMap (fun l => twoOpen.markers[l.val].map fun n => (l, n)) ∧
      4294967295 ≤ ({ twoOpen with nextSeq := 4294967295 } : HeldMemory).nextSeq ∧
      (go (.resetPin pins true) { ready with held := { twoOpen with nextSeq := 4294967293 } }).faults.journalHold = false ∧
      (go (.resetPin pins true) { ready with held := { twoOpen with nextSeq := 4294967295 } }).faults.journalHold = true := by
  decide +kernel

def frameFor (p : Payload) (applied : Bool) : Frame := { dest := none, payload := p, applied := applied }

/-- A SHOWN or a HOLD of this station not applied before, on its last attempt. -/
def ownFrame (i : Fin 11) (p : Payload) (sfc : Nat) (r : ItemRecord) : State :=
  (lastTry networked i (frameFor p false) sfc 95).onItems fun t => { t with records := [r] }

theorem witness_OwnOutcomes :
    let s := ownFrame 5 (.shown 50233 11 3) 247 bothWait
    s.silenced = false ∧ s.slot 5 = .held .sending (frameFor (.shown 50233 11 3) false) 3 false ∧
      (∀ j, (s.slot j).isSending = true → j = 5) ∧ s.line.kept = [] ∧ s.line.beaconKept = false ∧ s.items.pull = none ∧
      s.line.alone = false ∧ s.line.sfc < 248 ∧ s.items.deferred = [] ∧ s.items.find 50233 = some bothWait ∧ s.self = 3 ∧
      bothWait.pending = some ⟨11, both, true⟩ ∧ hasStation both 3 = true ∧ dropStation both 3 ≠ 0#8 ∧
      otherWaits.pending = some ⟨11, 0x08#8, true⟩ ∧ dropStation (0x08#8) 3 = 0#8 ∧
      hasStation (tea 0 none).holders 3 = false ∧ hasStation (tea both none).holders 3 = true ∧
      (tea both none).blocked = false := by decide +kernel

/-- An applied SHOWN on its last attempt, one of its kind and item deferred between two others. -/
theorem witness_Deferred :
    let s := (lastTry networked 5 (frameFor (.shown 50233 11 3) true) 247 95).onItems fun t =>
      { t with deferred := [.hold 50233 3 true, .shown 50233 10 3, .shown 5 1 3] }
    (Payload.shown 50233 11 3).ownItem = some (false, 50233) ∧ s.items.deferred = [.hold 50233 3 true] ++ .shown 50233 10 3 ::
        [.shown 5 1 3] ∧ (∀ q ∈ [Payload.hold 50233 3 true], q.ownItem ≠ some (false, 50233)) ∧
      s.slot 5 = .held .sending (frameFor (.shown 50233 11 3) true) 3 false ∧
      (∀ p ∈ manyDeferred.items.deferred, p.ownItem ≠ some (true, 40011)) ∧ manyDeferred.items.deferred.length = 128 := by
  decide +kernel

def noteFrame : Frame := frameFor (.note ⟨.itemRefused, ⟨true, 9402, 5⟩, true⟩) false

theorem witness_NoteOutcome :
    let s := lastTry networked 3 noteFrame 247 3
    s.silenced = false ∧ s.slot 3 = .held .sending noteFrame 3 false ∧ (∀ j, (s.slot j).isSending = true → j = 3) ∧
      s.line.kept = [] ∧ s.line.beaconKept = false ∧ s.line.alone = false ∧ s.line.sfc < 248 := by decide +kernel

/-- Slot 5 with a PRICE about to end, slot 4 taken, and two frames of the owner kept behind a note. -/
theorem witness_KeptIsPlaced :
    let note := Draft.note .heldLost ⟨true, 9402, 5⟩ false
    let price := frameFor (.price aSet) false
    let s := ((networked.setSlot 4 (.held .waiting ownHold 0 false)).setSlot 5 (.held .sending price 1 false)).onLine fun l =>
      { l with kept := [note] ++ .frame ownHold :: [.frame price] }
    s.silenced = false ∧ s.slot 5 = .held .sending price 1 false ∧ price.payload.owner.slots = [4, 5] ∧ s.slot 4 ≠ .free ∧
      (∀ j, (s.slot j).isSending = true → j = 5) ∧ s.line.kept = [note] ++ .frame ownHold :: [.frame price] ∧
      note.owner ≠ price.payload.owner ∧ ownHold.payload.owner = price.payload.owner ∧ s.line.beaconKept = false := by
  decide +kernel

/-- Station 1 shows one version more than this station's 3; this is its second or third such beacon in a row. -/
def ahead : Beacon := beaconOf 4 6 false .following
def lead (k : Nat) : State :=
  (withPeer networked 1 .present 5 (beaconOf 3 3 true .idle)).onItems fun t => { t with applied := 3, leads := t.leads.set 1 k }

theorem witness_Gaps :
    goodReceive (claimOf (.beacon ahead)) (frameOf none (.beacon ahead)) = true ∧
      readFrame (claimOf (.beacon ahead)) (frameOf none (.beacon ahead)) = some (1, none, .beacon ahead) ∧
      (lead 1).present 1 = true ∧ (lead 1).items.applied < ahead.applied ∧ (lead 1).items.leads[1] < 2 ∧
      2 ≤ (lead 2).items.leads[1] ∧ (lead 2).items.pull = none ∧
      ((lead 2).onItems fun t => { t with pull := some aPull }).items.pull ≠ none ∧
      (lead 2).items.applied ≤ ahead.applied ∧ (lead 2).slot 7 = .free ∧ (lead 2).line.kept = [] ∧
      (∀ j : Station, j < 1 → (lead 2).entry j = none) ∧ (lead 2).self ≠ 1 := by decide +kernel

/-- A record with everything at its highest, to make the longest CHUNK. -/
def highest : ItemRecord where
  code := 4294967295
  kind := .weighed
  taxClass := 3
  blocked := true
  overdue := true
  version := 4294967295
  book := ⟨16777215, 65535, some ⟨255, 16777215⟩⟩
  charge := ⟨16777215, 65535, none⟩
  pending := some ⟨4294967295, 0xFF#8, true⟩
  holders := 0xFF#8

/-- The frame of each kind, with its fields at their highest. -/
def longest : List Payload :=
  [.authq 7 3 4294967295 4294967295, .autha 3 4294967295 .declinedNoRoute, .claim, .night (.pricesDone 4294967295),
    .night (.time 65535 86399), .night (.closed .failed), .note ⟨.itemRefused, ⟨true, 65535, 86399⟩, true⟩,
    .price { version := 4294967295, code := 4294967295, kind := .weighed, taxClass := 3, body := some highest.book },
    .shown 4294967295 4294967295 7, .hold 4294967295 7 true, .pull, .jpull 255, .jrel 4294967295,
    .beacon { beaconOf 4294967295 65535 true .closed with day := 65535, second := 86399, overdueCount := 65535, undrained := 255 },
    .jseg { empty := false, lastSeg := true, lastRecord := true, seq := 4294967295, index := 255, data := List.replicate 224 255#8 },
    .chunk { status := .recordsEnd, records := List.replicate 6 highest, applied := 4294967295 },
    .chunk { status := .endAlone, records := [], applied := 4294967295 }, .chunk { status := .busy, records := [], applied := 0 }]

theorem witness_EveryKindFits : (longest ++ kinds).all Payload.fits = true := by decide +kernel
theorem test_longest_read_back :
    (longest.take 14).all (fun p => readFrame (claimOf p) (frameOf (some 3) p) == some (1, some 3, p)) = true := by
  decide +kernel

/-- A price on a record out of range, and a DELIST of an unknown code; the next version with marks behind it, a middle one, and
the two sides of the window's end. -/
theorem witness_SeenAndRefused :
    PriceWaits (itemIn (withTea (tea 0 none)) 1 (.price (teaSet (some ⟨1000000, 0, none⟩) 11))) 1
      (teaSet (some ⟨1000000, 0, none⟩) 11) [] ∧
      PriceWaits (itemIn ready 1 (.price (teaSet none 11))) 1 (teaSet none 11) [] ∧ setInRange (teaSet none 11) ∧
      ¬ setInRange (teaSet (some ⟨1000000, 0, none⟩) 11) ∧ setInRange (teaSet (some ⟨999999, 9001, some ⟨10, 1⟩⟩) 11) ∧
      mended .unit ⟨999999, 9001, some ⟨10, 1⟩⟩ = ⟨999999, 9000, none⟩ ∧
      [7, 8, 10] = (List.range 2).map (5 + 2 + ·) ++ [10] ∧ 5 + 2 + 2 < 10 ∧ 261 ≤ 5 + 256 ∧ 5 + 256 < 262 ∧
      [7, 8, 10] = [7, 8] ++ [10] ∧ 5 + 1 ∉ [7, 8, 10] := by
  and_intros <;> first
    | exact priceWaits _ _ (by decide +kernel)
    | exact ⟨rfl, rfl⟩
    | exact fun h => absurd (h.2.2 _ rfl) (by decide)
    | decide +kernel

theorem witness_Dearer :
    let both3 : PriceState := ⟨500, 0, some ⟨3, 1500⟩⟩
    dearer ⟨500, 0, none⟩ both3 ∧ dearer ⟨500, 0, some ⟨2, 1001⟩⟩ both3 ∧ ¬ dearer ⟨500, 0, some ⟨2, 1000⟩⟩ both3 ∧
      ¬ dearer ⟨500, 0, some ⟨3, 1500⟩⟩ ⟨500, 0, none⟩ ∧ dearer ⟨501, 0, some ⟨9, 1⟩⟩ ⟨500, 0, none⟩ ∧
      (List.replicate 255 (⟨1, 1, 0⟩ : WatchEntry)).length < 256 ∧ ¬ (List.replicate 256 (⟨1, 1, 0⟩ : WatchEntry)).length < 256 := by
  refine ⟨.inr ⟨rfl, .inl ⟨by decide, rfl⟩⟩, .inr ⟨rfl, .inr ⟨_, _, rfl, rfl, by decide⟩⟩, ?_, ?_, .inl (by decide), by decide +kernel,
    by decide +kernel⟩
  · rintro (h | ⟨-, ⟨-, h⟩ | ⟨mn, mc, hn, hc, h⟩⟩)
    · exact absurd h (by decide)
    · exact absurd h (by decide)
    · cases hn
      cases hc
      exact absurd h (by decide)
  · rintro (h | ⟨-, ⟨h, -⟩ | ⟨mn, mc, hn, hc, h⟩⟩)
    · exact absurd h (by decide)
    · exact absurd rfl h
    · cases hc

/-- One lane's basket is not CLOSED; the last number that leaves room, and the first that does not. -/
theorem witness_Room :
    (allLanes.filter fun l => decide (l.val < min opened.start.straps.lanes 4 ∧ (opened.lane l).basket.state ≠ .closed)).length = 1 ∧
      (opened.onHeld fun h => { h with nextSeq := 4294967293 }).hasRoom = true ∧
      (opened.onHeld fun h => { h with nextSeq := 4294967294 }).hasRoom = false := by decide +kernel

/-- Two live units of the coffee and three more make one whole group, and four more two. -/
theorem witness_Promos :
    let b := ((drive [.scan (rq 2) 40011 2] opened).lane 0).basket
    (b.lockFor coffee).kind = .unit ∧ (b.lockFor coffee).state.multibuy = some ⟨3, 1500⟩ ∧
      1500 < 3 * (b.lockFor coffee).headline ∧
      ((b.lines.filter fun l => l.item == 40011 && !l.voided && !l.promo).map (·.quantity)).sum = 2 ∧
      (b.newPromos (b.lockFor coffee) 3 2).length = 1 ∧ (b.newPromos (b.lockFor coffee) 4 2).length = 2 ∧
      (b.lockFor bananas).kind = .weighed ∧ b.locks.find? (fun k => k.item == bananas.code) = none := by decide +kernel

/-- A basket in which VOID of one unit undoes a promotion of 999: its total rises by 499, past the limit or up to it. -/
def lineOf (n : Nat) (promo : Bool) (amount : Int) : Line :=
  { number := n, item := 40011, kind := .unit, quantity := 1, headline := 500, amount := amount, taxClass := 1
    voided := false, promo := promo }
def undoing (total : Int) : State :=
  opened.onLane 0 fun c => { c with basket := { c.basket with
    lines := [lineOf 1 false 500, lineOf 2 false 500, lineOf 3 true (-999)], total := total
    locks := [{ item := 40011, kind := .unit, taxClass := 1, state := ⟨500, 0, some ⟨2, 1⟩⟩, headline := 500 }] } }

theorem witness_VoidLimit :
    let b := ((undoing 99999501).lane 0).basket
    TillTakes (undoing 99999501) (rq 4 4).lane [.opened] ∧ b.lines.find? (fun x => x.number == 1) = some (lineOf 1 false 500) ∧
      sumAmounts (lineOf 1 false 500 :: b.cascade (lineOf 1 false 500)) = -499 ∧ 99999999 < b.total - (-499) ∧
      ((undoing 99999500).lane 0).basket.total - (-499) ≤ 99999999 := by
  refine ⟨till _ _ _ (by decide +kernel), ?_⟩
  decide +kernel

/-! ## The hypotheses are met: the clauses of labels, the uplink, guests and the night that came last -/

/-- The item of the exchange pends here, its two labels at the version, or the second one still below it. -/
def confirming (v : Nat) (st : LabelState) : State :=
  { networked with
    held := { networked.held with
      labels := [{ labelAt 1 .current 0 none with shownVersion := 10 }, { labelAt 3 st 0 none with shownVersion := v }] }
    items := { networked.items with records := [{ coffee with pending := some ⟨10, 0x08#8, true⟩ }] } }

theorem witness_Confirmation :
    let s := confirming 10 .current
    s.items.find 40011 = some { coffee with pending := some ⟨10, 0x08#8, true⟩ } ∧ hasStation (0x08#8) s.self = true ∧
      (∃ l ∈ s.held.labels, l.item = 40011) ∧
      (∀ l ∈ s.held.labels, l.item = 40011 → l.state ≠ .faulted ∧ 10 ≤ l.shownVersion) ∧ s.silenced = false ∧
      s.line.alone = false ∧ s.slot 4 = .free ∧ s.line.kept = [] ∧
      (∃ l ∈ (confirming 9 .current).held.labels, l.item = 40011 ∧ (l.state = .faulted ∨ l.shownVersion < 10)) ∧
      (∃ l ∈ (confirming 10 .faulted).held.labels, l.item = 40011 ∧ (l.state = .faulted ∨ l.shownVersion < 10)) := by
  decide +kernel

/-- A target and a shown version one below it, at it, and a blocked target. -/
theorem witness_Target :
    (stocked.target 40011).version = 10 ∧ (stocked.target 40011).blocked = false ∧ stocked.items.find 1 = none ∧
      (stocked.target 1).blocked = true ∧ stocked.needsUpdating (labelAt 0 .current 0 none) = true ∧
      stocked.needsUpdating { labelAt 0 .current 0 none with shownVersion := 10 } = false := by decide +kernel

theorem witness_Ack :
    let s := updating 2
    s.labels.exchange.any (fun e => e.radioId == 88 && !e.void && e.index == 0) = true ∧
      s.held.labelAt 0 = some (labelAt 0 .awaiting 2 none) := by decide +kernel

/-- One or two authorisations queued, of peers, as the link goes DOWN. -/
def queued (more : List AuthItem) : State :=
  networked.onRouter fun r =>
    { r with
      linkUp := true, authQueue := ⟨1, 5, 0, 9, 100⟩ :: more
      authFlows := [⟨1, 5, 0, 9, 100, 80000, none⟩, ⟨4, 1, 2, 9, 100, 80000, none⟩] }

theorem witness_LinkDown :
    let s := queued [⟨4, 1, 2, 9, 100⟩]
    s.start.straps.uplink = true ∧ s.router.linkUp = true ∧ s.router.authQueue = ⟨1, 5, 0, 9, 100⟩ :: [⟨4, 1, 2, 9, 100⟩] ∧
      (∀ x ∈ s.router.authQueue, x.origin ≠ s.self ∧ ∃ f ∈ s.router.authFlows, f.tag = x.tag) ∧ s.silenced = false ∧
      s.slot 0 = .free ∧ s.slot 1 = .free ∧ s.line.kept = [] ∧
      (queued []).router.authQueue = ⟨1, 5, 0, 9, 100⟩ :: [] := by decide +kernel

/-- A branch with station 1 ABSENT and station 2 QUIET, the link UP, and an exchange at CONNECT or a batch that waits. -/
def risen : State :=
  (withPeer (withPeer ready 1 .absent 9 (beaconOf 0 1 true .idle)) 2 .quiet 9 (beaconOf 0 1 true .idle)).onRouter fun r =>
    { r with linkUp := true, linkFree := false }
def connecting (d1 : Bool) : State :=
  inNight risen fun n => { n with state := .exchanging, stage := some .connect, d1 := d1, attempts := 2 }
def waitingBatch : Batch := { freshBatch 1 with phase := .waitLink, linkLost := true }
def linkWaits : State :=
  inNight risen fun n => { n with state := .exchanging, stage := some .drain, attempts := 2, batch := some waitingBatch }

theorem witness_NightOnLinkUp :
    let c := connecting false
    let f := inNight risen fun n => { n with state := .following, exchange := some 1 }
    c.night.stage = some .connect ∧ c.night.d1 = false ∧ c.night.dayDrain = false ∧ c.uplinkUp = true ∧
      c.silenced = false ∧ c.slot 8 = .free ∧ c.line.kept = [] ∧ (2 : Station) < c.self ∧ c.entry 2 ≠ none ∧
      c.absent 2 = false ∧ (∀ m : Station, m < 2 → c.entry m = none ∨ c.absent m = true) ∧ (connecting true).night.d1 = true ∧
      linkWaits.night.batch = some waitingBatch ∧ waitingBatch.phase = .waitLink ∧ waitingBatch.target ≠ linkWaits.self ∧
      linkWaits.night.attempts < 3 ∧ linkWaits.slot 8 = .free ∧ f.night.state = .following ∧ f.night.batch = none ∧
      f.uplinkUp = true ∧ f.start.profileBad = false ∧ f.night.d1 = false ∧ f.absent 1 = true ∧ f.slot 2 = .free ∧
      risen.night.state ≠ .exchanging ∧ risen.night.state ≠ .following ∧ risen.night.batch = none := by decide +kernel

/-- Every guest entry taken: two ENDED at one time and one a millisecond later, and none ENDED. -/
def guestsFull (ended : Bool) : State := serving.onGuest fun g => { g with table := Vector.ofFn fun i =>
  { client with
    address := some (100 + i.val)
    state := if ended && (i == 2 || i == 5 || i == 9) then .ended else .evicted
    ended := if ended && (i == 2 || i == 5 || i == 9) then some (if i == 2 then 71 else 70) else none } }

theorem witness_GuestTableFull :
    let s := guestsFull true
    s.closed = false ∧ s.serves = true ∧ s.uplinkUp = true ∧ s.roster.pressure < 22528 ∧ s.guestOf 42 = none ∧
      (∀ j : Fin 64, (s.guestAt j).state ≠ .free) ∧ (s.guestAt 5).state = .ended ∧
      (∀ j : Fin 64, (s.guestAt j).state = .ended →
        (s.guestAt 5).ended.getD 0 < (s.guestAt j).ended.getD 0 ∨
          ((s.guestAt 5).ended.getD 0 = (s.guestAt j).ended.getD 0 ∧ 5 ≤ j)) ∧
      (∀ j : Fin 64, ((guestsFull false).guestAt j).state ≠ .free ∧ ((guestsFull false).guestAt j).state ≠ .ended) ∧
      (guestsFull false).guestOf 42 = none ∧ ((clientAs .ended 64).guestAt 0).state = .ended ∧
      64 ≤ ((clientAs .ended 64).guestAt 0).allowance ∧ (clientAs .ended 64).guestOf 42 = some 0 ∧
      (clientAs .ended 64).closed = false := by decide +kernel

/-- An EVICTED client is refused for the closed hours before it is refused as EVICTED (R146, R156). -/
theorem test_closed_before_evicted :
    (exec (.assoc 42) ((clientAs .evicted 64).onClock fun c => { c with second := 79200 }) |> fun
      | .next t => t.out
      | _ => []) = [.accessPoint (.refuse 42 .closed)] := by decide +kernel

/-- A batch that waits for the link at deadline 1; an exchange at deadline 2 with nothing in hand, and with a batch of which
nothing is taken. -/
theorem witness_DeadlinesOfAnExchange :
    let s := atSecond linkWaits 9000
    let t := atSecond (exchanging .report fun n => { n with reports := [ready.makeReport .success] }) 18000
    let u := atSecond (exchanging .drain fun n => { n with batch := some (peerBatch 0) }) 18000
    s.clock.second = ((s.start.profile.w0 + s.start.profile.d1) % 1440) * 60 ∧ s.windowOpen = true ∧
      s.night.batch = some waitingBatch ∧ s.night.dayDrain = false ∧ s.night.releases = [] ∧ ownBatch.phase ≠ .waitLink ∧
      t.clock.second = ((t.start.profile.w0 + t.start.profile.d2) % 1440) * 60 ∧ t.night.state = .exchanging ∧
      t.night.stage = some .report ∧ t.night.batch = none ∧ t.silenced = false ∧ t.slot 2 = .free ∧ t.slot 9 = .free ∧
      t.line.kept = [] ∧ u.night.batch = some (peerBatch 0) ∧ (peerBatch 0).target ≠ u.self ∧
      (∀ c ∈ (peerBatch 0).collected, (peerBatch 0).taken < c.seq) ∧ u.night.releases = [] ∧ u.slot 8 = .free ∧
      (asState .exchanging).night.stage ≠ some .drain := by decide +kernel

/-- A claimer whose CLAIM is WAITING, and one whose CLAIM is SENDING. -/
def claimer (phase : SlotPhase) : State := (asState .claiming).setSlot 2 (.held phase (frameFor .claim false) 2 false)

theorem witness_ClaimStillOut :
    NightWaits (nightIn (claimer .waiting) 2 .claim) 2 .claim [] ∧
      NightWaits (nightIn (claimer .sending) 6 (.night .held)) 6 (.night .held) [] ∧
      NightWaits (nightIn (claimer .sending) 6 (.night (.closed .part))) 6 (.night (.closed .part)) [] ∧
      NightWaits (nightIn (exchanging .report id) 6 (.night (.closed .success))) 6 (.night (.closed .success)) [] ∧
      (exchanging .report id).night.batch = none ∧ (claimer .sending).night.state = .claiming ∧ (2 : Station) < (claimer .waiting).self ∧
      ((claimer .waiting).slot 2).frame = some (frameFor .claim false) ∧ (claimer .waiting).line.kept = [] ∧
      claimGone ((claimer .waiting).slot 2) = .free ∧
      claimGone ((claimer .sending).slot 2) = .held .sending (frameFor .claim false) 2 false := by
  and_intros <;> first | exact nightWaits _ _ _ rfl | decide +kernel

/-- A batch that has just begun, with releases CARRIED to its station and to another. -/
def shownBy (first : Option Nat) : DrainEntry × Nat :=
  let x := { ready.night with releases := [⟨7, 2, [(1, 2), (2, 2)], true⟩, ⟨5, 4, [(2, 2), (3, 3), (4, 4)], true⟩, ⟨5, 6, [(5, 1)], false⟩] }
  let y := x.releasesShown 5 first
  (y.drain[5], y.releases.length)

/-- A journal that now begins with record 4 has lost records 2 and 3 of the three named; one that begins with record 2 none; an
empty one all (R101, R164). -/
theorem test_releases_shown :
    shownBy (some 4) = ({ outcome := .none, records := 2, cells := 5 }, 2) ∧
      shownBy (some 2) = ({ outcome := .none, records := 0, cells := 0 }, 2) ∧
      shownBy none = ({ outcome := .none, records := 3, cells := 9 }, 2) := by decide +kernel

theorem witness_CarriedWithBatch :
    let s := inNight releasing fun n => { n with batch := some (freshBatch 5) }
    s.night.batch = some (freshBatch 5) ∧ (freshBatch 5).target = 5 ∧ releasing.night.batch = none := by decide +kernel

theorem witness_NewBatchRec :
    let s := exchanging .prices id
    s.night.stage = some .prices ∧ s.night.pricesEnding = none ∧ s.items.find 50233 = none ∧
      setInRange (teaSet (some ⟨999999, 9001, some ⟨1, 5⟩⟩) 7) ∧ s.items.records.length < 16384 ∧ s.items.pull = none ∧
      s.held.bound 50233 = [] ∧ s.slot 4 = .free ∧ s.line.kept = [] := by
  and_intros <;> first
    | exact ⟨rfl, rfl⟩
    | decide +kernel

/-- A JTAKEN while JPUTs still wait for their places. -/
theorem witness_JtakenWhilePutting :
    let b := { peerBatch 1 with phase := .putting }
    b.phase = .putting ∧ b.collected.getLast? = some ⟨2, zeros 32⟩ ∧ 2 ≤ max b.taken 2 ∧ b.targetLost = false := by decide

/-! ## The hypotheses are met: flags, the READY pass, notices, segments, guest flows, yields and reports -/

def noteKept : Draft := .note .heldLost ⟨true, 9402, 5⟩ false

/-- Slot 3 taken, with a note kept behind it; a gateway whose SERVICE queue has one place left. -/
theorem witness_FlagRaises :
    let s := (ready.setSlot 3 (placed none .claim)).onLine fun l => { l with kept := [noteKept] }
    ready.flagSet .itemRefused = false ∧ FaultFlag.itemRefused.classA = false ∧ ready.slot 3 = .free ∧ ready.line.kept = [] ∧
      s.slot 3 ≠ .free ∧ (ready.raise .itemRefused).flagSet .itemRefused = true ∧ FaultFlag.heldLost.classA = true ∧
      gateway.flagSet .heldLost = false ∧ gateway.holdsRole = true ∧ networked.holdsRole = false ∧
      (gateway.router.linkUp && gateway.router.linkFree) = false := by decide +kernel

/-- A journal whose last sequence number is used has no room for a basket. -/
def noNumbers : State := ready.onHeld fun h => { h with nextSeq := 4294967295 }

theorem witness_ClearAgain : ServiceTakes ready (sv 1 24).lane ∧ ServiceTakes noNumbers (sv 1 24).lane ∧ ready.silenced = false ∧
    noNumbers.silenced = false ∧ ready.hasRoom = true ∧ noNumbers.hasRoom = false ∧ noNumbers.holdsRole = false ∧
    noNumbers.slot 3 = .free ∧ noNumbers.line.kept = [] := by
  and_intros <;> first | exact service _ _ (by decide +kernel) | decide +kernel

/-- A CLEAR where JOURNAL_FULL holds on takes the present stamp and gives a NOTE (R187). -/
theorem test_clear_again :
    let t := go (.clear (sv 1 24)) ({ noNumbers with clock := { ready.clock with day := 9400 } }.raise .journalFull)
    t.faults.flags[3] = { raised := some ⟨true, 9400, 40815⟩, unsent := none } ∧ (t.slot 3).isFree = false := by
  decide +kernel

theorem witness_ReadyPass :
    let s := (onNow listening 2000).onHeld fun h => { h with labels := [labelAt 0 .current 0 none, labelAt 2 .queued 0 none] }
    s.start.phase = .listen ∧ s.start.listenUntil = some 2000 ∧ 2000 ≤ s.clock.now ∧ s.tableOffered = false ∧ s.Ordered := by
  and_intros <;> decide +kernel

/-- A label of each state of R109's table but AWAITING, the queue holding the QUEUED one and another item's. -/
def table : State :=
  (labelled [labelAt 0 .current 0 none, labelAt 1 .queued 0 none, labelAt 2 .retryWait 3 (some 100500), labelAt 3 .faulted 6 none,
    { labelAt 5 .queued 0 none with item := 20100 }]).onLabels fun u => { u with queue := [5, 1] }

theorem witness_Notice : table.Ordered ∧ table.labels.held = false ∧ (∃ l ∈ table.held.labels, l.item = 40011) ∧
    (∀ l ∈ table.held.labels, l.item ≠ 51207) ∧ State.reset.labels.held = true := by
  and_intros <;> decide +kernel

/-- Version 10 of the coffee is new to all four: the CURRENT and the RETRY_WAIT label join the tail, the QUEUED one keeps its
place, the FAULTED one stays (R109). -/
theorem test_notice :
    (labelsNoticed table 40011).labels.queue = [5, 1, 0, 2] ∧
      (labelsNoticed table 40011).held.labels.map (fun l => (l.state, l.attempts, l.notBefore)) =
        [(.queued, 0, none), (.queued, 0, none), (.queued, 0, none), (.faulted, 6, none), (.queued, 0, none)] := by
  decide +kernel

def exchangeEnding (changed void : Bool) : State := (updating 4).onLabels fun u =>
  { u with exchange := u.exchange.map fun e => { e with changed := changed, void := void } }

theorem witness_VoidAndChanged :
    (exchangeEnding false true).Ordered ∧ ((exchangeEnding false true).labels.exchange.map (·.void)) = some true ∧
      ((exchangeEnding true false).labels.exchange.map (·.changed)) = some true ∧ 4 < 5 ∧
      (exchangeEnding true false).held.labelAt 0 = some (labelAt 0 .awaiting 4 none) ∧ 100000 ≤ (exchangeEnding true false).clock.now := by
  and_intros <;> decide +kernel

/-- A batch for station 1 of a CANCELLED record of 8 cells and a note, with the segment at its cursor on its last attempt. -/
def long : JournalRecord where
  seq := 1
  inFlight := true
  content := .basket
    { type := .cancelled, station := 3, lane := 0, basket := 7, stamp := ⟨true, 9402, 5⟩, standin := false, total := 0, tax := none
      lines := List.replicate 7 ⟨1, 40011, .unit, 1, 552, 552, 1, false, false⟩, tenders := [], change := none }
def sendingBatch : State :=
  (ready.onHeld fun h => { h with records := [long, noteOf 2 true, noteOf 3 false], nextSeq := 4 }).onLine fun l =>
    { l with alone := false }
def atSegment (seq index : Nat) (g : Jseg) : State :=
  (lastTry sendingBatch 9 { dest := some 1, payload := .jseg g, applied := false } 247 3).setJournal
    (some { puller := .peer 1, cursor := some (seq, index), sentThrough := none })

theorem witness_SegmentOutcomes :
    let s := atSegment 1 0 (segment sendingBatch long 0)
    s.slot 9 = .held .sending { dest := some 1, payload := .jseg (segment sendingBatch long 0), applied := false } 3 false ∧
      (∀ j, (s.slot j).isSending = true → j = 9) ∧ s.line.kept = [] ∧ s.line.beaconKept = false ∧ s.line.alone = false ∧
      (segment sendingBatch long 0).lastSeg = false ∧ (segment sendingBatch long 1).lastSeg = true ∧
      (segment sendingBatch (noteOf 2 true) 0).lastSeg = true ∧ (segment sendingBatch (noteOf 2 true) 0).lastRecord = true ∧
      (s.held.records.filter (·.inFlight)).find? (fun r => r.seq == 1) = some long ∧
      (s.held.records.filter (·.inFlight)).find? (fun r => decide (1 < r.seq)) = some (noteOf 2 true) ∧
      (∀ r ∈ s.held.records, r.inFlight = true → r.seq ≤ 2) ∧ s.line.sfc < 248 ∧ noSegment.empty = true := by decide +kernel

/-- The first segment CARRIED, the second follows: 32 bytes, the record's last, not of the newest record (R100). -/
theorem test_segment_follows :
    ((go (.attemptEnd (.sent true false)) (atSegment 1 0 (segment sendingBatch long 0))).slot 9).waitingFrame.map (fun f =>
      match f.payload with
      | .jseg g => (g.seq, g.index, g.lastSeg, g.lastRecord, g.data.length)
      | _ => (0, 0, false, false, 0)) = some (1, 1, true, false, 32) := by decide +kernel

/-- Indices 0 and 2 taken, so 1 is the lowest free one. -/
def flows (ks : List Nat) (queued : Nat) : State := serving.onRouter fun r =>
  { r with guestFlows := ks.map fun k => { flow with index := k, dest := 1000 + k }, guestQueue := List.replicate queued ⟨0, []⟩ }

theorem witness_Flows :
    let mine := fun f : GuestFlow => f.slot == 0 && f.port == 500 && f.dest == 99 && f.destPort == 80
    let s := flows [0, 2] 127
    s.router.guestFlows.find? mine = none ∧ (∀ f ∈ s.router.guestFlows, f.index ≠ 1) ∧
      (∀ j, j < 1 → ∃ f ∈ s.router.guestFlows, f.index = j) ∧ s.uplinkUp = true ∧ s.router.linkFree = false ∧
      s.router.guestQueue.length < 128 ∧ 128 ≤ (flows [0, 2] 128).router.guestQueue.length ∧
      (serving.onRouter fun r => { r with linkUp := false }).uplinkUp = false := by decide +kernel
theorem flows_table (ks : List Nat) (n : Nat) :
    (flows ks n).router.guestFlows = ks.map fun k => { flow with index := k, dest := 1000 + k } := rfl
theorem witness_AllFlows :
    (flows (List.range 512) 0).router.guestFlows.find?
        (fun f => f.slot == 0 && f.port == 500 && f.dest == 99 && f.destPort == 80) = none ∧
      ∀ k, k < 512 → ∃ f ∈ (flows (List.range 512) 0).router.guestFlows, f.index = k := by
  rw [flows_table]
  generalize hr : List.range 512 = ks
  refine ⟨List.find?_eq_none.2 fun f hf => ?_, fun k hk => ⟨_, List.mem_map.2 ⟨k, hr ▸ List.mem_range.2 hk, rfl⟩, rfl⟩⟩
  obtain ⟨k, -, rfl⟩ := List.mem_map.1 hf
  have h : ¬ 1000 + k = 99 := by omega
  simp [h]

/-- The new flow takes index 1, so its packet leaves from port 20,001 (R138, R139). -/
theorem test_new_flow :
    (go (.guestPacketOut (packet 99 64)) (flows [0, 2] 0)).router.guestQueue = [⟨1, zeros 64⟩] ∧
      ((go (.guestPacketOut (packet 99 64)) (flows [0, 2] 128)).router.flow 1).map (·.dest) = some 99 := by decide +kernel

/-- An exchange with a batch of station 5 in hand, a JREL on its way there; slot 8 FREE, and taken. -/
def rivalled (taken : Nat) : State := exchanging .drain fun n =>
  { n with batch := some (peerBatch taken), walk := some 5, releases := [⟨5, 2, [(2, 2)], false⟩] }

theorem witness_Yields :
    GivesUp (rivalled 0) (journalSent (rivalled 0) 5 (.jrel 0)) ∧ GivesUp (rivalled 1) (journalSent (rivalled 1) 5 (.jrel 1)) ∧
      NightWaits (nightIn (rivalled 1) 2 (.night .held)) 2 (.night .held) [] ∧ (rivalled 1).night.state = .exchanging ∧
      (2 : Station) < (rivalled 1).self ∧ (rivalled 1).slot 9 = .free := by
  refine ⟨.inr ⟨_, rfl, ?_⟩, .inr ⟨_, rfl, ?_⟩, nightWaits _ _ _ rfl, ?_⟩ <;> decide +kernel

/-- After a yield the JREL's end counts nothing: a follower's drain record stays as it stands (R162, R171). -/
theorem test_yield_counts_nothing :
    let t := go .nightHeld (nightIn (rivalled 1) 2 (.night .held))
    t.night.state = .following ∧ t.night.drain = (rivalled 1).night.drain ∧
      (go (.attemptEnd (.sent true false)) (t.setSlot 8 (t.slot 8).begin)).night.drain = (rivalled 1).night.drain := by
  decide +kernel

/-- A JREL on its last attempt with the next JPULL kept behind it. -/
theorem witness_JpullBehind :
    let g : Frame := { dest := some 5, payload := .jpull 16, applied := false }
    let s := releasing.onLine fun l => { l with kept := [.frame g] }
    s.line.kept = [.frame g] ∧ g.payload.owner = .journal ∧ s.slot 8 = .held .sending { dest := some 5, payload := .jrel 4, applied := false } 3 false ∧
      s.line.sfc < 248 ∧ (∀ x ∈ ready.night.releases, x.station ≠ 5 ∨ x.seq ≠ 4) := by decide +kernel

theorem witness_Success :
    let s := (exchanging .time fun n => { n with drainOutcome := some true, pricesOutcome := some true }).onRouter fun r =>
      { r with serviceQueue := List.replicate 15 (item 0) }
    s.night.stage = some .time ∧ s.night.timeTaken = false ∧ s.clock.valid = true ∧ s.night.drainOutcome = some true ∧
      s.night.pricesOutcome = some true ∧ s.night.waiting = [] ∧ s.night.reports = [] ∧ s.router.backlog = [] ∧
      (s.router.linkUp && s.router.linkFree) = false ∧ s.silenced = false ∧ s.slot 2 = .free ∧ s.slot 9 = .free ∧
      s.line.kept = [] ∧ s.roster.gateway ≠ some s.self ∧
      s.router.serviceQueue.length + (reportOf s .success).parts.length = 16 := by decide +kernel

/-- The highest of this station's 5 cells and station 1's 100. -/
theorem witness_Pressure : IsPressure networked 5 100 := by
  refine ⟨by decide, fun n e h _ => ?_, .inr ⟨1, _, rfl, rfl, rfl⟩⟩
  have hn : ∀ n : Station, (networked.entry n).all (fun e => decide (e.beacon.journalUsed ≤ 100)) = true := by decide +kernel
  simpa [h] using hn n

/-! ## The hypotheses are met: falls, beacons and peers gone, guests shut out -/

/-- The journal-full condition ends with a basket given back: the flag drops, unless a dropped note holds it (R97). -/
theorem test_full_ends :
    let s := go (.openBasket (rq 1)) lastRoom
    let end_ : Request := { lane := 0, number := 2, confirm := 255 }
    s.flagSet .journalFull = true ∧ s.hasRoom = false ∧ (go (.cancel end_) s).flagSet .journalFull = false ∧
      (go (.cancel end_) (s.onFaults fun r => { r with journalHold := true })).flagSet .journalFull = true := by
  decide +kernel

/-- A CARD waits, its AUTHQ still in slot 0. -/
def authSent (phase : SlotPhase) : State :=
  asked.setSlot 0 (.held phase { dest := some 1, payload := .authq 3 0 1 2298, applied := false } 0 false)

theorem witness_ResetWithEntry :
    (authSent .sending).lanePresent 0 = true ∧ ((authSent .sending).lane 0).auth.isSome = true ∧
      (authSent .sending).line.kept = [] ∧ ((authSent .sending).lane 0).basket.state ≠ .closed ∧
      ((authSent .sending).lane 0).basket.lines ≠ [] ∧ (ready.lane 0).basket.state = .closed ∧ (ready.lane 0).auth = none := by
  decide +kernel

/-- The AUTHQ leaves its slot, or is marked as it is sent, and the entry is on the late list with NONE (R85, R86, R88). -/
theorem test_reset_ends_entry :
    let t := go (.laneReset 0) (authSent .waiting)
    t.slot 0 = .free ∧ (t.lane 0).late = [⟨1, 2298, .none, 100000⟩] ∧ (t.lane 0).auth = none ∧
      (go (.laneReset 0) (authSent .sending)).slot 0 = slotWithout (fun _ => true) ((authSent .sending).slot 0) := by
  decide +kernel

/-- Station 5 is being served; slot 10 as given. -/
def servingFive (slot : Slot) : State :=
  (networked.onItems fun t => { t with serving := some ⟨5, 20100⟩ }).setSlot 10 slot

def chunkFor (n : Station) (status : ChunkStatus) : Frame :=
  { dest := some n, payload := .chunk { status := status, records := [], applied := 0 }, applied := false }

theorem witness_ServedAgain :
    let frame := frameBytes (BitVec.ofNat 6 37) (some 3) .pull
    goodReceive (BitVec.ofNat 6 37) frame = true ∧ readFrame (BitVec.ofNat 6 37) frame = some (5, some 3, .pull) ∧
      (servingFive .free).items.pull = none ∧ (servingFive .free).line.kept = [] ∧ (servingFive .free).line.sfc < 256 ∧
      (∀ r ∈ (servingFive .free).items.records, 0 < r.code) ∧
      servingChunk (chunkFor 5 .records).payload = true ∧ servingChunk (chunkFor 1 .busy).payload = false ∧
      (let s := (servingFive (.held .sending (chunkFor 5 .records) 0 true)).onLine fun l => { l with kept := [.nextChunk] }
      (∀ j, (s.slot j).isSending = true → j = 10) ∧ (chunkFor 5 .records).payload.owner = .chunk ∧
        s.line.alone = false ∧ s.line.beaconKept = false ∧ s.line.sfc < 88 ∧ s.line.hfc < 96) := by decide +kernel

/-- A PULL of the station being served starts over; the CHUNK under way goes first (R44). -/
theorem test_served_again :
    let t := (servingFive (.held .sending (chunkFor 5 .records) 0 false)).servePull 5
    t.items.serving = some ⟨5, 0⟩ ∧ t.line.kept = [.nextChunk] ∧
      ((servingFive .free).servePull 5).items.serving = some ⟨5, 51207⟩ := by decide +kernel

/-- A station whose next fault takes its count to 256, an own HOLD WAITING, two NOTEs kept for a taken slot, a PULL of its pull in
slot 7. -/
def falling (s : State) : State :=
  (((sendingSlot2 s).setSlot 3 (.held .waiting noteFrame 0 false)).setSlot 7
      (.held .waiting { dest := some 1, payload := .pull, applied := false } 0 false)).onLine fun l =>
    { l with sfc := 248, kept := [.note .itemRefused ⟨true, 9402, 6⟩ false, .note .labelFaulted ⟨true, 9402, 7⟩ true] }

theorem falls (s : State) (p : s.start.powered = true) (h : (falling s).slot 2 = (sendingSlot2 ready).slot 2)
    (o : ∀ j, ((falling s).slot j).isSending = true → j = 2)
    (k : ∀ d ∈ (falling s).line.kept, ∀ j ∈ d.owner.slots, (falling s).slot j ≠ .free) (b : s.line.beaconKept = false) :
    Falls (falling s) 2 { dest := none, payload := .claim, applied := false } 0 :=
  ⟨p, h, o, k, b, Nat.le_refl _, (by decide : (248 : Nat) < 256)⟩

theorem witness_Falls :
    let s := falling pulling
    Falls s 2 { dest := none, payload := .claim, applied := false } 0 ∧ attemptOutcome .mismatch = .faulted ∧
      NightFallen s s.night ∧ s.items.pull ≠ none ∧ s.anyPresent = true ∧
      (∀ d ∈ endingNow s, isAuthq d = false) ∧ (∀ g ∈ (endingNow s).filterMap Machine.ownFrame, g.applied = true) := by
  refine ⟨falls _ rfl ?_ ?_ ?_ rfl, ?_⟩
  iterate 3 decide +kernel
  refine ⟨by decide, .inr (.inr ⟨?_, ?_, ?_, .inl ?_, rfl⟩), ?_⟩ <;> decide +kernel

/-- A gateway with a client falls, exchanging or in a day drain, with a batch of station 5 in hand. -/
theorem witness_NightFalls :
    let x := rivalled 1
    let d := inNight serving fun n => { n with dayDrain := true, batch := some (peerBatch 1), walk := some 5 }
    NightFallen x { x.night.leaveExchange with state := .following, exchange := none, releases := [] } ∧
      NightFallen d { d.night with
        dayDrain := false, walk := none, batch := none, attempts := 0, restUntil := some 700000 } ∧
      d.holdsRole = true ∧ (d.router.linkUp && d.router.linkFree) = false ∧ d.router.guestDropped ≤ 65535 ∧
      (d.guestAt 0).joined = true := by
  refine ⟨.inl ⟨rfl, rfl, ?_, ?_⟩, .inr (.inl ⟨?_, rfl, ?_, ?_, rfl⟩), ?_⟩
  · intro b hb; cases hb; decide
  · decide +kernel
  · decide
  · decide +kernel
  · intro b hb; cases hb; decide +kernel
  · decide +kernel

/-- What a fall leaves: the kept NOTE's time on its flag, the pull marked anew, the client ended (R13, R45, R154, R186). -/
theorem test_fall :
    let t := go (.attemptEnd .mismatch) (falling pulling)
    t.silenced = true ∧ t.items.pull = none ∧ t.items.repairMark = true ∧ t.line.kept = [] ∧
      (t.faults.flags[FaultFlag.itemRefused.code.val]).unsent = some ⟨true, 9402, 6⟩ ∧
      (t.faults.flags[FaultFlag.labelFaulted.code.val]).unsent = some ⟨true, 9402, 7⟩ ∧
      ((go (.attemptEnd .mismatch) (falling serving)).guestAt 0).state = .ended := by decide +kernel

theorem witness_FallsWithOwn :
    let s := lastTry (withTea (tea 0x20#8 none)) 4 (frameFor (.hold 50233 3 true) false) 248 0
    let a := lastTry asked 0 { dest := some 1, payload := .authq 3 0 1 2298, applied := false } 248 0
    OnlyAttempt s 4 ∧ OwnEffect s (.hold 50233 3 true) (tea 0x20#8 none) (tea 0x28#8 none) ∧ s.items.deferred = [] ∧
      s.items.find 50233 = some (tea 0x20#8 none) ∧ OnlyAttempt a 0 ∧
      (a.lane 0).auth.map (fun e => (e.basket, e.amount, e.route)) = some (1, 2298, .line) ∧
      (a.lane 0).inFlight.isSome = true ∧ (2298 : Int) ≤ (a.lane 0).basket.remaining := by
  refine ⟨⟨?_, rfl, rfl, ⟨?_, rfl⟩, ?_⟩, .inr (.inl ⟨rfl, ?_, ?_⟩), rfl, ?_, ⟨?_, ?_, ?_, ?_, ?_⟩, ?_⟩ <;> decide +kernel

theorem beaconComes (n : Station) (b : Beacon) (s : State) (p : s.start.powered = true)
    (h : goodReceive (BitVec.ofNat 6 (24 + n.val)) (frameBytes (BitVec.ofNat 6 (24 + n.val)) none (.beacon b)) = true ∧
      readFrame (BitVec.ofNat 6 (24 + n.val)) (frameBytes (BitVec.ofNat 6 (24 + n.val)) none (.beacon b)) =
        some (n, none, .beacon b) ∧ n ≠ s.self) :
    BeaconComes (BitVec.ofNat 6 (24 + n.val)) (frameBytes (BitVec.ofNat 6 (24 + n.val)) none (.beacon b)) s n b :=
  ⟨p, h.1, ⟨none, h.2.1, .inl rfl⟩, h.2.2⟩

/-- Station 5 is heard for the first time by a station that is alone, frames deferred and notes unsent. -/
def alone (mark : Bool) : State :=
  ((restarting ready).onLine fun l => { l with sfc := 3, alone := true }).onItems fun t => { t with repairMark := mark }

theorem witness_BecomesPresent :
    let b := beaconOf 0 100 true .idle
    BeaconComes (BitVec.ofNat 6 29) (frameBytes (BitVec.ofNat 6 29) none (.beacon b)) (alone true) 5 b ∧
      BeaconPlain (alone true) 5 b ∧ (alone true).present 5 = false ∧ (restarting ready).present 5 = false ∧
      256 ≤ (restarting ready).line.sfc ∧ (∀ p ∈ (alone true).items.deferred, p.owner = .item) ∧
      (alone true).slot 3 = .free ∧ (alone true).slot 4 = .free ∧ (alone true).slot 5 = .free ∧
      (alone true).slot 7 = .free ∧ (alone true).line.kept = [] ∧ (alone true).items.pull = none ∧
      (beaconFiled (alone true) 5 b).firstTarget = some 5 ∧ (alone false).items.repairMark = false := by
  refine ⟨beaconComes 5 _ _ rfl ?_, ⟨?_, .inl ?_, ?_, .inl rfl⟩, ?_⟩ <;> decide +kernel

/-- What the first peer heard brings: the alone flag gone, the deferred frames and the first note out, a PULL to it (R10, R37,
R42, R186). -/
theorem test_becomes_present :
    let b := beaconOf 0 100 true .idle
    let t := go (.frameReceive (BitVec.ofNat 6 29) (frameBytes (BitVec.ofNat 6 29) none (.beacon b)) false) (alone true)
    t.line.alone = false ∧ t.items.deferred = [] ∧ t.slot 4 = .held .waiting (ownAgain (.shown 1 7 3)) 0 false ∧
      t.slot 7 = placed (some 5) .pull ∧ (t.slot 3).isFree = false ∧ t.items.repairMark = false := by decide +kernel

/-- A beacon with a Clock: in the hours but for the window's first second; deadline 1; the last second before deadline 2. -/
def withClock (second : Nat) : Beacon := { beaconOf 0 100 true .idle with second := second }

theorem witness_Adopts :
    let s := withPeer (unset true) 5 .present 90000 (beaconOf 0 100 true .idle)
    BeaconComes (BitVec.ofNat 6 29) (frameBytes (BitVec.ofNat 6 29) none (.beacon (withClock 3600))) s 5 (withClock 3600) ∧
      s.present 5 = true ∧ s.clock.valid = false ∧ (withClock 3600).clockValid = true ∧ s.night.dayDrain = false ∧
      s.router.guestDropped ≤ 65535 ∧ s.night.state = .idle ∧ s.uplinkUp = true ∧ s.start.profileBad = false ∧
      (beaconFiled s 5 (withClock 3600)).exchangingPeer = none ∧ s.slot 2 = .free ∧ s.line.kept = [] ∧
      (3600 + 86400 - s.start.profile.w0 * 60) % 86400 = 0 ∧
      (8999 + 86400 - s.start.profile.w0 * 60) % 86400 < s.start.profile.d1 * 60 ∧
      s.start.profile.d1 * 60 ≤ (9000 + 86400 - s.start.profile.w0 * 60) % 86400 ∧
      (17999 + 86400 - s.start.profile.w0 * 60) % 86400 < s.start.profile.d2 * 60 ∧
      s.start.profile.d2 * 60 ≤ (18000 + 86400 - s.start.profile.w0 * 60) % 86400 := by
  refine ⟨beaconComes 5 _ _ rfl ?_, ?_⟩ <;> decide +kernel

theorem witness_ShowsExchanging :
    let b := beaconOf 0 100 true .exchanging
    let s (x : State) := withPeer x 5 .present 90000 (beaconOf 0 100 true .idle)
    let r := withPeer (rivalled 1) 1 .present 90000 (beaconOf 0 100 true .idle)
    BeaconComes (BitVec.ofNat 6 29) (frameBytes (BitVec.ofNat 6 29) none (.beacon b)) (s (asState .exchanging)) 5 b ∧
      BeaconComes (BitVec.ofNat 6 25) (frameBytes (BitVec.ofNat 6 25) none (.beacon b)) r 1 b ∧
      GivesUp r (journalSent r 5 (.jrel 1)) ∧ r.night.state = .exchanging ∧ (1 : Station) < r.self ∧ r.present 1 = true ∧
      (s (asState .exchanging)).self < 5 ∧ (s (asState .exchanging)).slot 2 = .free ∧
      (s (claimer .sending)).night.state = .claiming ∧ (s (claimer .sending)).line.kept = [] ∧
      (asState .following).night.state ∈ [NightState.idle, .following, .closed] ∧ b.nightState = .exchanging := by
  refine ⟨beaconComes 5 _ _ rfl ?_, beaconComes 1 _ _ rfl ?_, .inr ⟨_, rfl, ?_⟩, ?_⟩ <;> decide +kernel

theorem test_shows_exchanging :
    let hear (n : Nat) (x : State) := go (.frameReceive (BitVec.ofNat 6 (24 + n))
      (frameBytes (BitVec.ofNat 6 (24 + n)) none (.beacon (beaconOf 0 100 true .exchanging))) false) x
    (hear 5 (asState .claiming)).night.exchange = some 5 ∧ (hear 1 (asState .exchanging)).night.state = .following ∧
      (hear 5 (asState .exchanging)).slot 2 = placed none (.night .held) := by decide +kernel

/-- Station 5, quiet for 10 s, is served, pulls this journal, and is drained: the batch in a phase, with what it has collected. -/
def leaving (phase : BatchPhase) (cs : List Collected) : State :=
  let s := withPeer (sent (.peer 5)) 5 .quiet 90000 (beaconOf 0 100 true .idle)
  (inNight s fun n => { n with
    state := .exchanging, stage := some .drain, exchange := some 3, walk := some 5
    batch := some { freshBatch 5 with phase := phase, collected := cs } }).onItems fun t => { t with serving := some ⟨5, 0⟩ }

theorem witness_GoesAbsent :
    let s := leaving (.collecting 100500) []
    let e : PeerEntry := { presence := .quiet, lastHeard := 90000, beacon := beaconOf 0 100 true .idle }
    GoesAbsent s 5 e ∧ s.night.batch = some { freshBatch 5 with phase := .collecting 100500 } ∧
      s.night.dayDrain = false ∧ s.night.d1 = false ∧ (∀ m : Station, 5 < m → m ≠ s.self ∧ s.entry m = none) ∧
      (withPeer s 7 .quiet 95000 (beaconOf 0 0 true .idle)).absent 7 = false ∧ s.uplinkUp = true ∧ s.silenced = false ∧
      (withPeer s 7 .quiet 95000 (beaconOf 0 0 true .idle)).entry 7 ≠ none ∧ s.line.kept = [] ∧
      (leaving .waitLink []).night.batch = some { freshBatch 5 with phase := .waitLink } ∧
      (leaving .putting [four]).night.batch = some { freshBatch 5 with phase := .putting, collected := [four] } ∧
      (∀ m : Station, 5 < m → m ≠ s.self ∧ s.present m = false) := by
  refine ⟨⟨rfl, ?_, rfl, ?_, ?_, ?_⟩, ?_⟩
  iterate 3 decide +kernel
  · intro _ d hd
    have hk : (leaving (.collecting 100500) []).line.kept = [] := by decide +kernel
    simp [hk] at hd
  · decide +kernel

/-- The peer gone: not served, its pull over, and the walk past station 7, its outcome ABSENT (R44, R102, R164). -/
theorem test_goes_absent :
    let t := go (.entryAbsent 5) (leaving (.collecting 100500) [])
    t.items.serving = none ∧ t.journal = none ∧ (t.held.records.all fun r => !r.inFlight) = true ∧
      (t.night.drain[5]).outcome = .absent ∧ t.night.stage = some .prices ∧
      (go (.entryAbsent 5) (leaving (.collecting 100500) [four])).night.batch.map (·.targetLost) = some true := by
  decide +kernel

/-- A client joined as W0 falls, and as the gateway role is laid down. -/
theorem witness_GuestsShut :
    let s := { atSecond serving 3600 with roster := { serving.roster with gateway := some 3 } }
    (s.guestAt 0).joined = true ∧ s.router.guestDropped ≤ 65535 ∧ s.night.state = .idle ∧ s.night.dayDrain = false ∧
      s.uplinkUp = true ∧ s.exchangingPeer = none ∧ s.roster.gateway = some s.self ∧
      (withPeer s 1 .present 5 (beaconOf 0 0 true .idle)).gatewayNow = some 1 ∧ (s.guestOf 42) = some 0 := by decide +kernel

/-- It ends with DROP, and its flow goes (R125, R138, R154). -/
theorem test_guests_shut :
    let t := go .windowOpenTime (atSecond serving 3600)
    let u := (withPeer serving 1 .present 5 (beaconOf 0 0 true .idle)).recalcGateway
    t.out = [.accessPoint (.drop 42)] ∧ (t.guestAt 0).state = .ended ∧ t.router.guestFlows = [] ∧
      u.out = [.accessPoint (.drop 42)] ∧ (u.guestAt 0).state = .ended ∧ u.router.guestFlows = [] := by decide +kernel

/-! ### Good frames that reach no inbox, SILENCED stations, and the chunks of a serving -/

/-- A frame by its parts, its check sequence last (Table 11-1). -/
def rawFrame (claim : BitVec 6) (kind : Nat) (dest : Byte) (data : List Byte) : List Byte :=
  let body := beBytes 1 kind ++ [dest] ++ beBytes 1 data.length ++ data
  body ++ beBytes 2 (crc16 (claim.setWidth 8 :: body)).toNat

def hushed (s : State) : State := s.onLine fun l => { l with sfc := 256, hfc := 7 }

/-- Good receives of an unknown kind, of a PULL with a byte too many, of a NIGHT with a code outside its field; a CLAIM of this
station's own number and one for station 7; and a SHOWN, a HOLD and a CHUNK read where the Item inbox is full. -/
theorem witness_Dropped :
    let c := BitVec.ofNat 6 9
    (∀ f ∈ [rawFrame c 99 3#8 [], rawFrame c 50 3#8 [0#8], rawFrame c 21 3#8 [77#8]],
      goodReceive c f = true ∧ readFrame c f = none) ∧
      lengthFits 99 0 = false ∧ lengthFits 50 1 = false ∧ lengthFits 21 1 = true ∧
      (let own := BitVec.ofNat 6 19
      goodReceive own (frameBytes own none .claim) = true ∧ readFrame own (frameBytes own none .claim) = some (3, none, .claim)) ∧
      readFrame (claimOf .claim) (frameOf (some 7) .claim) = some (1, some 7, .claim) ∧
      (32 ≤ full.line.itemInbox.length ∧ 32 ≤ (hushed full).line.itemInbox.length) ∧
      (hushed ready).silenced = true ∧ (hushed ready).slot 10 = .free ∧ (hushed ready).line.kept = [] := by decide +kernel

/-- None of them reaches an inbox; the acknowledgement and the count are a good receive's, and neither comes while SILENCED, where a
HOLD is filed and a PULL brings no serving (R13, R15, R44). -/
theorem test_dropped :
    let c := BitVec.ofNat 6 9
    go (.frameReceive c (rawFrame c 99 3#8 []) false) (ready.onLine fun l => { l with hfc := 7 }) =
        { ready with out := [.acknowledge], line := { ready.line with hfc := 6 } } ∧
      go (.frameReceive (claimOf .pull) (frameOf (some 3) .pull) false) (hushed ready) = hushed ready ∧
      (let t := go (.frameReceive (claimOf (.hold 40011 5 true)) (frameOf none (.hold 40011 5 true)) false) (hushed ready)
      t.out = [] ∧ t.line.hfc = 7 ∧ t.line.itemInbox = [⟨1, .hold 40011 5 true⟩]) ∧
      (let t := go (.frameReceive (claimOf (.shown 40011 11 5)) (frameOf none (.shown 40011 11 5)) false) full
      t.flagSet .inboxLost = true ∧ t.line.repairAfterDrain = true ∧ t.line.itemInbox.length = 32) := by decide +kernel

/-- Seven records behind a cursor: six without the end mark, then the last with it and A; with none left the end mark alone (R43). -/
theorem witness_ChunkAfter :
    let rs := (List.range 7).map fun i => { coffee with code := 100 + i }
    let s := ready.onItems fun t => { t with records := rs, applied := 77 }
    ChunkAfter s 0 { status := .records, records := rs.take 6, applied := 0 } ∧
      ChunkAfter s 105 { status := .recordsEnd, records := rs.drop 6, applied := 77 } ∧
      ChunkAfter s 106 { status := .endAlone, records := [], applied := 77 } :=
  ⟨⟨_, rfl, by decide +kernel⟩, ⟨_, rfl, by decide +kernel⟩, ⟨_, rfl, by decide +kernel⟩⟩

/-! ### Day drains at the times a setting passes, and as NIGHT(HELD) opens the window (R175, R176, R184) -/

/-- The station that is called for a day drain, before its open minute 00:30, with W0 at 01:00 and the close minute given. -/
def early (close : Nat) : State := atSecond { called with start := { called.start with
  profile := { called.start.profile with openMinute := 30, closeMinute := close } } } 100

theorem witness_PassesOpen :
    let s := early 1320
    let line := { s.line with
      nightInbox := [], slots := s.line.slots.set 8 (placed (some 5) (.jpull 16))
      kept := [.frame { dest := some 5, payload := .jrel 0, applied := false }] }
    s.night.state = .idle ∧ s.clock.valid = true ∧ s.clock.second < s.timeOf .openEdge ∧
      s.drainCalledAt (s.timeOf .openEdge) = true ∧ s.drainCalled = false ∧ s.slot 2 = .free ∧ line.kept ≠ [] ∧
      s.timeOf .openEdge < s.timeOf .w0 ∧ s.timeOf .w0 ≤ 3700 ∧ 3700 < (s.start.profile.w0 + s.start.profile.d1) * 60 ∧
      (∀ e ∈ allTimes, e ≠ .openEdge → e ≠ .w0 → ¬ (s.clock.second < s.timeOf e ∧ s.timeOf e ≤ 3700)) ∧
      s.exchangingPeer = none ∧ (early 40).timeOf .openEdge < (early 40).timeOf .closeEdge ∧
      (early 40).timeOf .closeEdge ≤ 2500 ∧ (early 40).drainCalledAt ((early 40).timeOf .openEdge) = true ∧
      (∀ e ∈ allTimes, e ≠ .openEdge → e ≠ .closeEdge →
        ¬ ((early 40).clock.second < (early 40).timeOf e ∧ (early 40).timeOf e ≤ 2500)) := by decide +kernel

/-- The drain begins at the open minute and ends at W0 or the close minute, with its rest; past the open minute alone it goes on. -/
theorem test_passes_open :
    let set (close second : Nat) := (go .nightTime (nightIn (early close) 2 (.night (.time 9402 second)))).night
    ((set 1320 3700).state, (set 1320 3700).dayDrain, (set 1320 3700).restUntil) = (.claiming, false, some 700000) ∧
      ((set 40 2500).state, (set 40 2500).dayDrain, (set 40 2500).restUntil) = (.idle, false, some 700000) ∧
      ((set 1320 2500).dayDrain, (set 1320 2500).walk) = (true, some 5) := by decide +kernel

theorem witness_HeldEndsDrain :
    let s := inNight called fun n => { n with dayDrain := true }
    s.night.state = .idle ∧ s.night.batch = none ∧ s.clock.valid = true ∧ s.absent 5 = false := by decide +kernel

/-- The last frame leaves the Item inbox with the repair-after-drain mark set, no peer PRESENT (R17). -/
theorem test_repair_after_drain :
    let s := (itemIn ready 1 (.shown 40011 11 5)).onLine fun l => { l with repairAfterDrain := true }
    let t := go .takeShown s
    s.anyPresent = false ∧ s.items.doneWaits = [] ∧ t.items.repairMark = true ∧ t.line.repairAfterDrain = false := by
  decide +kernel

/-! ### Tax contents, the beacon, own frames applied at once, and answers to this station's own lane -/

/-- Non-voided lines of classes 1 and 2 and a promotion line of class 1; the voided line of class 2 does not count (R63). -/
theorem test_tax_contents :
    let ls : List Line := [{ lineOf 1 false 1070 with taxClass := 1 }, { lineOf 1 true (-535) with taxClass := 1 },
      { lineOf 2 false 1200 with taxClass := 2 }, { lineOf 3 false 500 with taxClass := 2, voided := true }]
    let b := { (opened.lane 0).basket with lines := ls }
    b.taxContents prof.taxRates = ⟨0, taxContent 535 700, taxContent 1200 2000, 0⟩ ∧ taxContent 535 700 = 35 ∧
      taxContent 1200 2000 = 200 := by decide +kernel

/-- A GUARDED station with flags of both classes set. -/
theorem test_beacon_contents :
    let s := (stocked.onLine fun l => { l with hfc := 96 }).onFaults fun f =>
      { f with flags := (f.flags.set 2 { raised := some ⟨true, 1, 2⟩, unsent := none }).set 9 { raised := some ⟨true, 1, 2⟩, unsent := none } }
    s.beacon = { beaconOf 0 0 true .idle with
      uplinkFitted := true, guestFitted := true, radioFitted := true, lanes := 4, guarded := true, clockValid := true
      day := 9402, second := 40815, anyA := s.beacon.anyA, anyB := true, nightResult := .none, undrained := 0 } := by
  decide +kernel

/-- A claimer that follows leaves a CLAIM SENDING as it is, and LOST it is WAITING again (R8, R161). -/
theorem test_claim_goes_on :
    let s := go .takeClaim (nightIn (claimer .sending) 2 .claim)
    s.night.state = .following ∧ s.slot 2 = (claimer .sending).slot 2 ∧
      (go (.attemptEnd .lostClaim) s).slot 2 = (claimer .waiting).slot 2 := by decide +kernel

/-- The tea, its increase outstanding at stations 3 and 5 and shown by the one label here; and the tea with no label. -/
def aloneOr (silent : Bool) (s : State) : State :=
  s.onLine fun l => { l with alone := !silent, sfc := if silent then 256 else 0 }
def teaLabel : State := (withTea bothWait).onHeld fun h => { h with labels := [{ labelAt 0 .current 0 none with
  item := 50233, shownVersion := 11 }] }
def teaHeld : State := (withTea { bothWait with pending := none }).onHeld fun h => { h with labels := [
  { labelAt 0 .current 0 none with item := 50233, radioId := 77 }] }
def teaFree : State := withTea { bothWait with pending := none, holders := 0#8 }

theorem witness_OwnAtOnce :
    let p : Payload := .hold 50233 3 true
    OwnAtOnce (aloneOr false teaFree) p
        { (aloneOr false teaFree).line with
          slots := (aloneOr false teaFree).line.slots.set 4 (.held .waiting (ownAgain p) 0 false) } [] ∧
      OwnAtOnce (aloneOr true teaFree) p (aloneOr true teaFree).line [p] ∧
      OwnEffect (aloneOr true teaFree) p { bothWait with pending := none, holders := 0#8 }
        { bothWait with pending := none, holders := addStation 0#8 3 } ∧
      OwnEffect teaHeld (.hold 50233 3 false) { bothWait with pending := none }
        { bothWait with pending := none, holders := dropStation both 3 } ∧
      OwnEffect teaLabel (.shown 50233 11 3) bothWait { bothWait with pending := some ⟨11, 0x20#8, true⟩ } ∧
      (teaHeld.held.labelOf 77).isSome = true ∧ teaFree.held.bound 50233 = [] ∧ teaLabel.items.pull = none ∧
      (∀ l ∈ teaLabel.held.labels, l.item = 50233 ∧ l.state ≠ .faulted ∧ 11 ≤ l.shownVersion) ∧
      ServiceTakes (aloneOr true teaFree) (sv 1).lane ∧ ServiceTakes (aloneOr false teaHeld) (sv 1).lane := by
  refine ⟨.inl ?_, .inr ?_, .inr (.inl ?_), .inr (.inr ?_), .inl ⟨11, _, rfl, rfl, ?_⟩, ?_⟩ <;>
    and_intros <;> first | rfl | exact service _ _ (by decide +kernel) | decide +kernel

theorem test_own_at_once :
    let shownAt (silent : Bool) := (aloneOr silent teaLabel).confirmCheck 50233
    (shownAt false).slot 4 = .held .waiting (ownAgain (.shown 50233 11 3)) 0 false ∧
      (shownAt true).items.deferred = [.shown 50233 11 3] ∧
      (go (.bind (sv 1) 78 50233) (aloneOr true teaFree)).items.deferred = [.hold 50233 3 true] ∧
      ((go (.unbind (sv 1) 77) (aloneOr false teaHeld)).items.find 50233).map (·.holders) = some 0x20#8 := by
  decide +kernel

/-- The lane's own request in the gateway's table, tag 1. -/
def ownAsked (s : State) (queued : Bool) : State := s.onRouter fun r =>
  { r with
    authFlows := [⟨1, 3, 0, 1, 2298, 80000, none⟩]
    authQueue := if queued then [{ tag := 1, origin := 3, lane := 0, basket := 1, amount := 2298 }] else [] }

theorem witness_OwnAnswers :
    AuthWaits (ownAsked asked true) 0 (entry 2298) 5 ∧ AuthWaits (ownAsked part false) 0 (entry 2297) 5 ∧
      (ownAsked asked true).start.straps.uplink = true ∧ (ownAsked asked true).router.linkUp = true ∧
      (ownAsked asked false).router.authFlows.filter (fun g => g.tag == 1) = [⟨1, 3, 0, 1, 2298, 80000, none⟩] ∧
      (3 : Station) = (ownAsked asked true).self ∧ 2298 ≤ (ownAsked asked true).start.profile.floorLimit ∧
      (ownAsked ready true).lane 0 = ready.lane 0 ∧ (ready.lane 0).auth = none ∧ (ready.lane 0).late = [] := by
  and_intros <;> first | exact authWaits _ _ _ (by decide +kernel) | decide +kernel

theorem test_own_answers :
    ((go (.officeAuthAns 1 .approved) (ownAsked asked false)).lane 0).basket.state = .paid ∧
      ((go (.officeAuthAns 1 .declined) (ownAsked asked false)).lane 0).basket.state = .totalled ∧
      ((go (.link false) (ownAsked asked true)).lane 0).basket.standin = true ∧
      ((go (.link false) (ownAsked asked true)).lane 0).late = [] := by decide +kernel
end Sys2Proof.Tests
end

namespace Sys2Proof.Machine.PowerLoss

/-! ## A station without power (R91, R178) -/

/-- A station without power clears its port outputs and does nothing else. -/
theorem run_unpowered {s : State} (f : State → State) (hp : s.start.powered = false) :
    run f s = .next { s with out := [] } := by
  simp only [run, live, hp, Bool.false_eq_true, if_false]

/-- Every command but POWER_ON asks for power first. -/
theorem exec_eq_run (c : Instr) (h : ∀ pins kept, c ≠ .powerOn pins kept) : ∃ f, ∀ s, exec c s = run f s := by
  cases c with
  | powerOn pins kept => exact absurd rfl (h pins kept)
  | _ => exact ⟨_, fun _ => rfl⟩

end Sys2Proof.Machine.PowerLoss

namespace Sys2Proof.Machine
open PowerLoss

/-- Settles O10: POWER_LOSS is the fresh state around the held memory, and every command but POWER_ON asks for power first. -/
theorem powerLossKeepsHeldMemory : Obligations.PowerLossKeepsHeldMemory := by
  unfold Obligations.PowerLossKeepsHeldMemory
  constructor
  · intro s hp
    exact exec_powerLoss s hp
  · intro c s hp hc
    obtain ⟨f, hf⟩ := exec_eq_run c hc
    rw [hf, run_unpowered f hp]

end Sys2Proof.Machine

namespace Sys2Proof.Machine.NightBatches

/-! ## What a change of the Night Exchange, or of a slot, leaves of the readings of the state -/

section Readings
variable (s : State) (f : Night → Night) (i : Fin 11) (x : Slot)

@[simp] theorem State.onNight_self : (s.onNight f).self = s.self := rfl
@[simp] theorem State.onNight_entry (n : Station) : (s.onNight f).entry n = s.entry n := rfl
@[simp] theorem State.onNight_absent (n : Station) : (s.onNight f).absent n = s.absent n := rfl
@[simp] theorem State.onNight_uplinkUp : (s.onNight f).uplinkUp = s.uplinkUp := rfl
@[simp] theorem State.onNight_silenced : (s.onNight f).silenced = s.silenced := rfl
@[simp] theorem State.onNight_slot : (s.onNight f).slot i = s.slot i := rfl
@[simp] theorem State.setSlot_self : (s.setSlot i x).self = s.self := rfl
@[simp] theorem State.setSlot_uplinkUp : (s.setSlot i x).uplinkUp = s.uplinkUp := rfl
@[simp] theorem State.setSlot_silenced : (s.setSlot i x).silenced = s.silenced := rfl
@[simp] theorem State.setSlot_kept : (s.setSlot i x).line.kept = s.line.kept := rfl

/-- Two changes of the Night Exchange are one. -/
@[simp] theorem State.onNight_onNight (g : Night → Night) : (s.onNight f).onNight g = s.onNight fun n => g (f n) := rfl

/-- A change of a slot and one of the Night Exchange change places. -/
@[simp] theorem State.setSlot_onNight : (s.setSlot i x).onNight f = (s.onNight f).setSlot i x := rfl

end Readings

/-! ## What the Night Exchange produces while its slots are FREE, or taken (R5, R9) -/

/-- A station whose send fault count is below 256 is not SILENCED (R12). -/
theorem State.silenced_of_lt {s : State} (h : s.line.sfc < 256) : s.silenced = false :=
  decide_eq_false (Nat.not_le_of_lt h)

/-- With nothing kept and slot 8 FREE, a JPULL or a JREL goes into it. -/
theorem State.produceJournal_free (s : State) (n : Station) (p : Payload) (ho : p.owner = .journal)
    (hs : s.silenced = false) (hk : s.line.kept = []) (h8 : s.slot 8 = .free) :
    s.produceJournal n p = s.setSlot 8 (placed (some n) p) := by
  have hfree : s.freeSlot p.owner = some 8 := by
    simp only [ho, State.freeSlot, Owner.slots, List.find?, h8, Slot.isFree]
  simp only [State.produceJournal, hs, Bool.false_eq_true, if_false]
  exact State.place_frame s { dest := some n, payload := p, applied := false } 8 hk hfree

/-- With slot 8 taken, no kept frame of its owner is placed. -/
theorem State.refill_journal_taken (s : State) (h8 : (s.slot 8).isFree = false) : s.refill .journal = s := by
  have hnone : s.freeSlot .journal = none := by simp only [State.freeSlot, Owner.slots, List.find?, h8]
  have honce : s.refillOnce .journal = s := by simp only [State.refillOnce, hnone]
  simp only [State.refill, honce]

/-- With slot 8 taken, a JPULL or a JREL is kept behind the others. -/
theorem State.produceJournal_kept (s : State) (n : Station) (p : Payload) (ho : p.owner = .journal)
    (hs : s.silenced = false) (h8 : (s.slot 8).isFree = false) :
    s.produceJournal n p = s.onLine fun l =>
      { l with kept := l.kept ++ [.frame { dest := some n, payload := p, applied := false }] } := by
  simp only [State.produceJournal, hs, Bool.false_eq_true, if_false, State.place, Draft.owner, ho]
  exact State.refill_journal_taken _ h8

/-- With nothing kept and slot 2 FREE, a NIGHT frame goes into it. -/
theorem State.produceNight_free (s : State) (m : NightMsg) (hs : s.silenced = false) (hk : s.line.kept = [])
    (h2 : s.slot 2 = .free) : s.produceNight m = s.setSlot 2 (placed none (.night m)) := by
  have hfree : s.freeSlot .night = some 2 := by
    simp only [State.freeSlot, Owner.slots, List.find?, h2, Slot.isFree]
  simp only [State.produceNight, hs, Bool.false_eq_true, if_false]
  exact State.place_frame s { dest := none, payload := .night m, applied := false } 2 hk hfree

/-! ## The drain record (R164) -/

@[simp] theorem Night.setOutcome_drain_self (x : Night) (n : Station) (o : DrainOutcome) :
    (x.setOutcome n o).drain[n.val] = { x.drain[n.val] with outcome := o } := by
  simp [Night.setOutcome]

theorem Night.setOutcome_drain_ne (x : Night) (n m : Station) (o : DrainOutcome) (h : m ≠ n) :
    (x.setOutcome n o).drain[m.val] = x.drain[m.val] := by
  have hv : n.val ≠ m.val := fun e => h (Fin.ext e.symm)
  simp [Night.setOutcome, Vector.getElem_set_ne, hv]

/-- A release that shows itself counts in its own station's drain record alone. -/
theorem Night.releasesShown_drain_ne (x : Night) (n m : Station) (oldest : Option Nat) (h : m ≠ n) :
    (x.releasesShown n oldest).drain[m.val] = x.drain[m.val] := by
  have hv : n.val ≠ m.val := fun e => h (Fin.ext e.symm)
  simp [Night.releasesShown, Night.countDrain, Vector.getElem_set_ne, hv]

/-- DRAIN is complete when every station is NONE or EMPTY. -/
theorem Night.drained_iff (x : Night) :
    x.drained = true ↔ ∀ m : Station, x.drain[m.val].outcome = .none ∨ x.drain[m.val].outcome = .empty := by
  simp only [Night.drained, List.all_eq_true, Vector.mem_toList_iff, Bool.or_eq_true, beq_iff_eq]
  constructor
  · intro h m
    exact h _ (Vector.getElem_mem m.isLt)
  · intro h d hd
    obtain ⟨i, hi, rfl⟩ := Vector.getElem_of_mem hd
    exact h ⟨i, hi⟩

/-- With one station's outcome told last, DRAIN is complete when it and all the others are NONE or EMPTY. -/
theorem Night.setOutcome_drained_iff (x : Night) (n : Station) (o : DrainOutcome) :
    (x.setOutcome n o).drained = true ↔ (o = .none ∨ o = .empty) ∧
      ∀ m : Station, m ≠ n → x.drain[m.val].outcome = .none ∨ x.drain[m.val].outcome = .empty := by
  rw [Night.drained_iff]
  constructor
  · intro h
    refine ⟨by simpa using h n, fun m hm => ?_⟩
    simpa [Night.setOutcome_drain_ne x n m o hm] using h m
  · rintro ⟨hn, hother⟩ m
    by_cases hm : m = n
    · subst hm; simpa using hn
    · simpa [Night.setOutcome_drain_ne x n m o hm] using hother m hm

/-- With one station found EMPTY last, DRAIN is complete when all the others are NONE or EMPTY. -/
theorem Night.emptyShown_drained_iff (x : Night) (n : Station) :
    ((x.releasesShown n none).setOutcome n .empty).drained = true ↔
      ∀ m : Station, m ≠ n → x.drain[m.val].outcome = .none ∨ x.drain[m.val].outcome = .empty := by
  rw [Night.setOutcome_drained_iff]
  constructor
  · rintro ⟨-, h⟩ m hm
    simpa [Night.releasesShown_drain_ne x n m none hm] using h m hm
  · refine fun h => ⟨.inr rfl, fun m hm => ?_⟩
    simpa [Night.releasesShown_drain_ne x n m none hm] using h m hm

/-! ## Finishing a station, and its next batch, by night before deadline 1 (R164 to R166) -/

/-- The Night Exchange with a station finished, before the walk goes on (R164). -/
def finished (x : Night) (n : Station) (o : DrainOutcome) : Night :=
  { (x.releasesPresumed n).setOutcome n o with batch := none, walk := none, attempts := 0 }

/-- Before deadline 1 a finished station hands the walk on to those after it. -/
theorem State.finishStation_walks (s : State) (n : Station) (o : DrainOutcome) (h1 : s.night.d1 = false) :
    s.finishStation n o = (State.walkOn (stationsAfter n) (s.onNight fun x => finished x n o)).walkDone := by
  have h1' : (s.onNight fun x => finished x n o).night.d1 = false := h1
  unfold State.finishStation
  exact if_neg (by simp only [Bool.and_eq_true, not_and, Bool.not_eq_true]; exact fun _ => h1')

/-- Past station 7 a drain by night ends. -/
theorem State.walkDone_night (s : State) (hw : s.night.walk = none) (hd : s.night.dayDrain = false) :
    s.walkDone = s.drainEnd := by
  simp only [State.walkDone, hw, hd, Option.isSome_none, Bool.false_eq_true, if_false]

/-- A walk that stands at a station has not passed station 7. -/
theorem State.walkDone_stands (s : State) (hw : s.night.walk.isSome = true) : s.walkDone = s := by
  simp only [State.walkDone, hw, if_true]

/-- DRAIN ends with its outcome, and PRICES begins with a BATCH_REQ (R164, R167). -/
def entersPrices (x : Night) (complete : Bool) (applied : Nat) : Night :=
  { x with
    drainOutcome := some complete, stage := some .prices, walk := none, batch := none, stallUntil := none
    askedAgain := false, newest := none, pricesEnding := none, donePending := false
    waiting := x.waiting ++ [.batchReq applied] }

theorem State.drainEnd_eq (s : State) :
    s.drainEnd = s.onNight fun x => entersPrices x x.drained s.items.applied := rfl

/-- Whether DRAIN is complete is read off the drain record alone. -/
theorem drained_finished (x : Night) (n : Station) (o : DrainOutcome) :
    (finished x n o).drained = ((x.releasesShown n none).setOutcome n o).drained := by
  simp only [Night.drained, finished, Night.releasesPresumed]

/-- Station 7 finished: DRAIN ends, and is complete where all stations are NONE or EMPTY (R164). -/
theorem State.finishStation_last (s : State) (o : DrainOutcome) (hd : s.night.dayDrain = false) (h1 : s.night.d1 = false) :
    s.finishStation 7 o = s.onNight fun x =>
      entersPrices (finished x 7 o) ((x.releasesShown 7 none).setOutcome 7 o).drained s.items.applied := by
  have hafter : stationsAfter 7 = [] := by decide
  have hpast : State.walkOn [] (s.onNight fun x => finished x 7 o) = s.onNight fun x => finished x 7 o := rfl
  have hd' : (s.onNight fun x => finished x 7 o).night.dayDrain = false := hd
  rw [State.finishStation_walks s 7 o h1, hafter, hpast, State.walkDone_night _ rfl hd', State.drainEnd_eq]
  simp only [State.onNight, drained_finished]

/-- A batch of a peer begins with its JPULL, where the uplink is up. -/
theorem State.beginBatch_peer (s : State) (n : Station) (hn : n ≠ s.self) (hu : s.uplinkUp = true) :
    s.beginBatch n = some
      ((s.onNight fun x => { x with walk := some n, batch := some (freshBatch n) }).produceJournal n (.jpull 16)) := by
  simp only [State.beginBatch, State.newBatch, hu, Bool.not_true, Bool.false_eq_true, if_false, if_neg hn]
  rfl

/-- While fewer than three attempts at a peer have failed, its next batch begins. -/
theorem State.nextBatch_pulls (s : State) (n : Station) (hd : s.night.dayDrain = false) (h1 : s.night.d1 = false)
    (ha : s.night.attempts < 3) (hn : n ≠ s.self) (hu : s.uplinkUp = true) :
    s.nextBatch n false =
      (s.onNight fun x => { x with walk := some n, batch := some (freshBatch n) }).produceJournal n (.jpull 16) := by
  have ha' : ¬ 3 ≤ s.night.attempts := by omega
  simp only [State.nextBatch, hd, h1, ha', State.beginBatch_peer s n hn hu, Bool.and_false, Bool.false_and,
    Bool.false_eq_true, if_false]

/-- After the third failed attempt in a row the station is GIVEN_UP. -/
theorem State.nextBatch_givenUp (s : State) (n : Station) (h1 : s.night.d1 = false) (ha : 3 ≤ s.night.attempts) :
    s.nextBatch n false = s.finishStation n .givenUp := by
  simp only [State.nextBatch, h1, ha, Bool.and_false, Bool.false_eq_true, if_false, if_true]

/-- The walk goes on to the station behind the finished one, where it is a peer that is not ABSENT: its JPULL is in slot 8. -/
theorem State.finishStation_next (s : State) (n m : Station) (o : DrainOutcome) (e : PeerEntry)
    (hd : s.night.dayDrain = false) (h1 : s.night.d1 = false) (hm : m.val = n.val + 1) (hself : m ≠ s.self)
    (he : s.entry m = some e) (hpres : e.presence ≠ .absent) (hu : s.uplinkUp = true) (hs : s.silenced = false)
    (h8 : s.slot 8 = .free) (hk : s.line.kept = []) :
    s.finishStation n o = (s.onNight fun x =>
      { finished x n o with walk := some m, batch := some (freshBatch m) }).setSlot 8 (placed (some m) (.jpull 16)) := by
  have hafter : stationsAfter n = m :: stationsAfter m := by
    have h : ∀ n m : Station, m.val = n.val + 1 → stationsAfter n = m :: stationsAfter m := by decide
    exact h n m hm
  have hdrains : (s.onNight fun x => finished x n o).drains m = true := by
    have hd' : (finished s.night n o).dayDrain = false := hd
    simp [State.drains, State.absent, he, hd', hpres]
  rw [State.finishStation_walks s n o h1, hafter, State.walkOn, if_pos hdrains, State.onNight_onNight,
    State.beginBatch_peer _ m (by simpa using hself) (by simpa using hu)]
  simp only [State.onNight_onNight]
  rw [State.produceJournal_free _ m _ rfl (by simpa using hs) (by simpa using hk) (by simpa using h8)]
  exact State.walkDone_stands _ rfl

/-! ## The ends of a collection and of a batch (R165, R166) -/

/-- Head office has taken none of a batch. -/
theorem Batch.released_isEmpty_iff (b : Batch) : b.released.isEmpty = true ↔ ∀ c ∈ b.collected, b.taken < c.seq := by
  simp [Batch.released, List.isEmpty_iff]

/-- A collection with complete records: its JPUTs wait for places. -/
theorem State.collectionEnd_puts (s : State) (b : Batch) (hc : b.collected ≠ []) :
    s.collectionEnd b = { s with night := { s.night with
      batch := some { b with phase := .putting, part := none }
      waiting := s.night.waiting ++ b.collected.map fun c => .jput b.target c.seq c.data } } := by
  simp only [State.collectionEnd, List.isEmpty_iff, if_neg hc]
  rfl

/-- A collection with nothing complete is a failed attempt. -/
theorem State.collectionEnd_fails (s : State) (b : Batch) (hc : b.collected = []) : s.collectionEnd b = s.failedAttempt b := by
  simp only [State.collectionEnd, hc, List.isEmpty_nil, if_true]

/-- The attempts in a row that have failed once a batch's attempt has: it counts unless the carrier link was DOWN (R166). -/
def attemptsAfter (b : Batch) (attempts : Nat) : Nat := if b.linkLost then attempts else attempts + 1

theorem State.failedAttempt_eq (s : State) (b : Batch) : s.failedAttempt b =
    (s.onNight fun x => { x with batch := none, attempts := attemptsAfter b x.attempts }).nextBatch b.target b.targetLost := rfl

/-- A failed attempt before the third in a row: the next JPULL is in slot 8. -/
theorem State.failedAttempt_again (s : State) (b : Batch) (hd : s.night.dayDrain = false) (h1 : s.night.d1 = false)
    (hlost : b.targetLost = false) (hself : b.target ≠ s.self) (ha : attemptsAfter b s.night.attempts < 3)
    (hu : s.uplinkUp = true) (hs : s.silenced = false) (h8 : s.slot 8 = .free) (hk : s.line.kept = []) :
    s.failedAttempt b = (s.onNight fun x => { x with
      attempts := attemptsAfter b x.attempts, walk := some b.target, batch := some (freshBatch b.target) }).setSlot 8
        (placed (some b.target) (.jpull 16)) := by
  rw [State.failedAttempt_eq, hlost, State.nextBatch_pulls _ b.target (by simpa using hd) (by simpa using h1)
    (by simpa using ha) (by simpa using hself) (by simpa using hu), State.onNight_onNight]
  exact State.produceJournal_free _ b.target _ rfl (by simpa using hs) (by simpa using hk) (by simpa using h8)

/-- The third failed attempt in a row of station 7: it is GIVEN_UP, and DRAIN ends incomplete. -/
theorem State.failedAttempt_third (s : State) (b : Batch) (hd : s.night.dayDrain = false) (h1 : s.night.d1 = false)
    (hlost : b.targetLost = false) (ha : 3 ≤ attemptsAfter b s.night.attempts) (h7 : b.target = 7) :
    s.failedAttempt b = s.onNight fun x => entersPrices (finished x 7 .givenUp) false s.items.applied := by
  have hdrained : ∀ x : Night, (x.setOutcome 7 .givenUp).drained = false := by
    intro x
    rw [Bool.eq_false_iff, ne_eq, Night.setOutcome_drained_iff]
    simp
  rw [State.failedAttempt_eq, hlost, h7, State.nextBatch_givenUp _ 7 (by simpa using h1) (by simpa using ha),
    State.finishStation_last _ .givenUp (by simpa using hd) (by simpa using h1)]
  simp only [hdrained]
  rfl

/-- A batch of a peer that head office has taken through a number: the JREL names it, in slot 8, and is noted. -/
theorem State.release_peer (s : State) (b : Batch) (hself : b.target ≠ s.self) (hr : b.released.isEmpty = false)
    (hs : s.silenced = false) (h8 : s.slot 8 = .free) (hk : s.line.kept = []) :
    s.release b = (s.onNight fun x => { x with releases := x.releases ++ [releaseNote b] }).setSlot 8
      (placed (some b.target) (.jrel b.taken)) := by
  have hnum : b.releaseNumber = b.taken := by simp only [Batch.releaseNumber, hr, Bool.false_eq_true, if_false]
  have hnote : b.release = releaseNote b := by simp only [Batch.release, hnum]; rfl
  simp only [State.release, if_neg hself, State.releaseThere, hs, hr, hnum, hnote, Bool.or_false, Bool.false_eq_true, if_false,
    State.produceJournal_free s b.target (.jrel b.taken) rfl hs hk h8, State.setSlot_onNight]

/-- A batch of a peer is released: the JREL is in slot 8, and the next JPULL is kept behind it. -/
theorem State.releaseBatch_peer (s : State) (b : Batch) (hd : s.night.dayDrain = false) (h1 : s.night.d1 = false)
    (hlost : b.targetLost = false) (hself : b.target ≠ s.self) (hr : b.released.isEmpty = false) (hu : s.uplinkUp = true)
    (hs : s.silenced = false) (h8 : s.slot 8 = .free) (hk : s.line.kept = []) :
    s.releaseBatch b = ((s.onNight fun x => { x with
        attempts := 0, walk := some b.target, batch := some (freshBatch b.target)
        releases := x.releases ++ [releaseNote b] }).setSlot 8 (placed (some b.target) (.jrel b.taken))).onLine fun l =>
      { l with kept := l.kept ++ [.frame { dest := some b.target, payload := .jpull 16, applied := false }] } := by
  simp only [State.releaseBatch, hlost, State.release_peer s b hself hr hs h8 hk, State.setSlot_onNight, State.onNight_onNight]
  rw [State.nextBatch_pulls _ b.target (by simpa using hd) (by simpa using h1) (by simp) (by simpa using hself)
    (by simpa using hu)]
  simp only [State.setSlot_onNight, State.onNight_onNight]
  exact State.produceJournal_kept _ b.target _ rfl (by simpa using hs) (by simp [placed, Slot.isFree])

/-! ## The waits and JTAKEN (R165, R166) -/

theorem State.segmentExpiry_collecting (s : State) (b : Batch) (d : Nat) (hb : s.night.batch = some b)
    (hph : b.phase = .collecting d) : s.segmentExpiry = if d ≤ s.now then s.collectionEnd b else s := by
  simp only [State.segmentExpiry, hb, hph]

theorem State.takenExpiry_awaiting (s : State) (b : Batch) (d : Nat) (hb : s.night.batch = some b)
    (hph : b.phase = .awaiting d) :
    s.takenExpiry = if s.now < d then s else if b.released.isEmpty then s.failedAttempt b else s.releaseBatch b := by
  simp only [State.takenExpiry, hb, hph]

/-- JTAKEN of the batch's own station, while its JPUTs wait or are awaited. -/
theorem State.jtaken_own (s : State) (b : Batch) (seq : Nat) (newest : Collected) (hb : s.night.batch = some b)
    (hph : b.phase = .putting ∨ ∃ d, b.phase = .awaiting d) (hl : b.collected.getLast? = some newest) :
    s.jtaken b.target.val seq =
      if newest.seq ≤ max b.taken seq then s.releaseBatch { b with taken := max b.taken seq }
      else { s with night := { s.night with batch := some { b with taken := max b.taken seq } } } := by
  obtain hph | ⟨d, hph⟩ := hph <;>
    simp only [State.jtaken, hb, hph, hl, Bool.not_true, Bool.false_or, ne_eq, not_true_eq_false, decide_false,
      Bool.false_eq_true, if_false] <;> rfl

/-- JTAKEN of another station changes nothing. -/
theorem State.jtaken_other (s : State) (b : Batch) (station seq : Nat) (hb : s.night.batch = some b)
    (hn : station ≠ b.target.val) : s.jtaken station seq = s := by
  simp only [State.jtaken, hb, ne_eq, hn.symm, not_false_eq_true, decide_true, Bool.or_true, if_true]

/-- The state a command starts from: the port outputs of the command before are gone. -/
abbrev outCleared (s : State) : State := { s with out := [] }

/-- The state a frame of the carrier unit starts from (R124). -/
abbrev carrierHeard (s : State) : State :=
  { s with out := [], router := { s.router with carrierHeard := some s.clock.now } }

/-- JTAKEN on a station with the uplink fitted is heard as a frame of the carrier unit (R124). -/
theorem exec_jtaken_fitted (s : State) (station seq : Nat) (hp : s.start.powered = true)
    (hf : s.start.straps.uplink = true) :
    exec (.jtaken station seq) s = .next (State.settle (State.jtaken (carrierHeard s) station seq)) := by
  rw [exec_jtaken station seq s hp]
  simp only [State.doJtaken, State.fromCarrier, hf, if_true]
  rfl

/-! ## A JSEG of the target (R165) -/

/-- A good unmarked frame heard by a station that is not SILENCED goes on to the acceptance test (R3, R15). -/
theorem exec_frameReceive_good (claim : BitVec 6) (bytes : List Byte) (s : State) (hp : s.start.powered = true)
    (hs : s.line.sfc < 256) (hg : goodReceive claim bytes = true) :
    exec (.frameReceive claim bytes false) s = .next ((heardGood s).accept claim bytes) := by
  have hsil : State.silenced { s with out := [] } = false := State.silenced_of_lt hs
  have hemit : (State.emit { s with out := [] } .acknowledge).silenced = false := hsil
  rw [exec_frameReceive claim bytes false s hp]
  simp only [State.doFrameReceive, hg, State.windows, State.countReceive, hsil, hemit, Bool.not_false, Bool.and_self, if_true,
    Bool.false_eq_true, if_false]
  rfl

/-- A JSEG to this station alone, from the target of the collection under way, is collected. -/
theorem exec_jseg_collected (claim : BitVec 6) (bytes : List Byte) (s : State) (g : Jseg) (b : Batch) (d : Nat)
    (hp : s.start.powered = true) (hs : s.line.sfc < 256) (hg : goodReceive claim bytes = true)
    (hr : readFrame claim bytes = some (b.target, some s.self, .jseg g)) (hn : b.target ≠ s.self)
    (hb : s.night.batch = some b) (hph : b.phase = .collecting d) :
    exec (.frameReceive claim bytes false) s = .next (State.settle ((heardGood s).collect b.target g)) := by
  have hself : (heardGood s).self = s.self := rfl
  have hb' : (heardGood s).night.batch = some b := hb
  have hpull : (heardGood s).pullOutstanding b.target = true := by
    simp only [State.pullOutstanding, hb', hph, beq_self_eq_true, Bool.and_self]
  rw [exec_frameReceive_good claim bytes s hp hs hg]
  simp only [State.accept, hr, hself, if_neg hn, if_true, State.deliver, hpull, Bool.and_self]

/-- The bytes gathered of the record that is being collected. -/
def gathered (b : Batch) : List Byte := match b.part with | some p => p.data | none => []

/-- The segment that opens a record which follows on the last one is expected. -/
theorem Batch.expects_first (b : Batch) (g : Jseg) (hp : b.part = none) :
    b.expects g = true ↔ g.index = 0 ∧ ∀ c, b.collected.getLast? = some c → g.seq = c.seq + 1 := by
  cases hl : b.collected.getLast? <;> simp [Batch.expects, hp, hl]

/-- The next segment of the record that is being collected is expected. -/
theorem Batch.expects_more (b : Batch) (g : Jseg) (p : PartRecord) (hp : b.part = some p) :
    b.expects g = true ↔ g.seq = p.seq ∧ g.index = p.next := by
  simp [Batch.expects, hp]

/-- A segment is expected that opens a record which follows on the last one, or goes on with the record being collected. -/
theorem Batch.expects_of (b : Batch) (g : Jseg) (old : List Byte)
    (h : (b.part = none ∧ old = [] ∧ g.index = 0 ∧ (∀ c, b.collected.getLast? = some c → g.seq = c.seq + 1)) ∨
      (∃ p, b.part = some p ∧ old = p.data ∧ g.seq = p.seq ∧ g.index = p.next)) :
    b.expects g = true ∧ gathered b = old := by
  obtain ⟨hp, rfl, hi, hc⟩ | ⟨p, hp, rfl, hs, hi⟩ := h
  · exact ⟨(Batch.expects_first b g hp).mpr ⟨hi, hc⟩, by simp only [gathered, hp]⟩
  · exact ⟨(Batch.expects_more b g p hp).mpr ⟨hs, hi⟩, by simp only [gathered, hp]⟩

/-- Any other segment is not expected. -/
theorem Batch.not_expects_of (b : Batch) (g : Jseg)
    (h : (b.part = none ∧ (g.index ≠ 0 ∨ ∃ c, b.collected.getLast? = some c ∧ g.seq ≠ c.seq + 1)) ∨
      (∃ p, b.part = some p ∧ (g.seq ≠ p.seq ∨ g.index ≠ p.next))) :
    b.expects g = false := by
  rw [Bool.eq_false_iff]
  obtain ⟨hp, hne⟩ | ⟨p, hp, hne⟩ := h
  · rw [ne_eq, Batch.expects_first b g hp]
    rintro ⟨hi, hc⟩
    obtain hi' | ⟨c, hl, hs⟩ := hne
    · exact hi' hi
    · exact hs (hc c hl)
  · rw [ne_eq, Batch.expects_more b g p hp]
    rintro ⟨hs, hi⟩
    exact hne.elim (· hs) (· hi)

theorem Batch.takeSegment_last (b : Batch) (g : Jseg) (hl : g.lastSeg = true) :
    b.takeSegment g = { b with collected := b.collected ++ [{ seq := g.seq, data := gathered b ++ g.data }], part := none } := by
  simp only [Batch.takeSegment, hl, if_true]
  rfl

theorem Batch.takeSegment_more (b : Batch) (g : Jseg) (hl : g.lastSeg = false) :
    b.takeSegment g = { b with part := some { seq := g.seq, next := g.index + 1, data := gathered b ++ g.data } } := by
  simp only [Batch.takeSegment, hl, Bool.false_eq_true, if_false]
  rfl

/-- What the first segment of a batch shows of the CARRIED JRELs of its target (R101, R164). -/
def firstShownOf (x : Night) (b : Batch) (g : Jseg) : Night :=
  if b.collected = [] ∧ b.part = none then x.releasesShown b.target (some g.seq) else x

theorem State.firstShown_eq (s : State) (b : Batch) (g : Jseg) : s.firstShown b g = s.onNight fun x => firstShownOf x b g := by
  by_cases h : b.collected = [] ∧ b.part = none
  · simp [State.firstShown, firstShownOf, h]
  · have h' : (b.collected.isEmpty && b.part.isNone) = false := by
      rw [Bool.eq_false_iff]; simpa using h
    simp only [State.firstShown, firstShownOf, h', h, Bool.false_eq_true, if_false]
    rfl

theorem firstShownOf_waiting (x : Night) (b : Batch) (g : Jseg) : (firstShownOf x b g).waiting = x.waiting := by
  unfold firstShownOf; split <;> rfl

/-- The collection with the segment wait begun anew. -/
def heardAt (b : Batch) (now : Nat) : Batch := { b with phase := .collecting (now + 2000) }

section Collect
variable (s : State) (b : Batch) (g : Jseg) (n : Station)

/-- What a segment does, by the state of the collection. -/
theorem State.collect_segment (hb : s.night.batch = some b) (he : g.empty = false) :
    s.collect n g =
      if b.broken then s.onNight fun x => { x with batch := some (heardAt b s.now) }
      else if b.expects g then
        if g.lastSeg && g.lastRecord then
          (s.onNight fun x => firstShownOf x b g).collectionEnd ((heardAt b s.now).takeSegment g)
        else s.onNight fun x => { firstShownOf x b g with batch := some ((heardAt b s.now).takeSegment g) }
      else s.onNight fun x => { x with batch := some { heardAt b s.now with broken := true, part := none } } := by
  simp only [State.collect, hb, he, Bool.false_eq_true, if_false, State.firstShown_eq, State.onNight_onNight]
  rfl

/-- A segment that does not end the collection: the batch as the segment leaves it, the segment wait begun anew. -/
theorem State.collect_expected (hb : s.night.batch = some b) (he : g.empty = false) (hbr : b.broken = false)
    (hx : b.expects g = true) (hmore : (g.lastSeg && g.lastRecord) = false) :
    s.collect n g = s.onNight fun x => { firstShownOf x b g with batch := some ((heardAt b s.now).takeSegment g) } := by
  simp only [State.collect_segment s b g n hb he, hbr, hx, hmore, Bool.false_eq_true, if_false, if_true]

/-- The segment that ends the last record of the batch ends the collection. -/
theorem State.collect_last (hb : s.night.batch = some b) (he : g.empty = false) (hbr : b.broken = false)
    (hx : b.expects g = true) (hlast : (g.lastSeg && g.lastRecord) = true) :
    s.collect n g = (s.onNight fun x => firstShownOf x b g).collectionEnd ((heardAt b s.now).takeSegment g) := by
  simp only [State.collect_segment s b g n hb he, hbr, hx, hlast, Bool.false_eq_true, if_false, if_true]

/-- A segment that is not expected breaks the collection. -/
theorem State.collect_unexpected (hb : s.night.batch = some b) (he : g.empty = false) (hbr : b.broken = false)
    (hx : b.expects g = false) :
    s.collect n g = s.onNight fun x => { x with batch := some { heardAt b s.now with broken := true, part := none } } := by
  simp only [State.collect_segment s b g n hb he, hbr, hx, Bool.false_eq_true, if_false]

/-- An EMPTY answer finishes the station. -/
theorem State.collect_empty (hb : s.night.batch = some b) (he : g.empty = true) :
    s.collect n g = s.finishStation n .empty := by
  simp only [State.collect, hb, he, if_true]

end Collect

/-! ## The walk of a branch with nothing to drain (R103, R164) -/

/-- No walk of this station begins a batch that lasts: its own journal is empty, and every peer heard is ABSENT. -/
structure NothingToDrain (s : State) : Prop where
  night   : s.night.dayDrain = false
  up      : s.uplinkUp = true
  kept    : s.line.kept = []
  slot    : s.slot 9 = .free
  records : s.held.records = []
  away    : ∀ n e, s.entry n = some e → e.presence = .absent

theorem State.withdraw_jseg_free (s : State) (hk : s.line.kept = []) (h9 : s.slot 9 = .free) :
    s.withdraw .jseg Frame.isJseg = s := by
  refine State.withdraw_none s .jseg _ hk fun i hi => ?_
  obtain rfl : i = 9 := by simpa [Owner.slots] using hi
  rw [h9]; rfl

/-- A change of held memory that leaves it as it is. -/
theorem State.onHeld_fixed (s : State) (f : HeldMemory → HeldMemory) (h : f s.held = s.held) : s.onHeld f = s := by
  simp only [State.onHeld, h]

/-- The journal batch of the local pull of an empty journal (R103). -/
def noRecords : OwnerBatch := { puller := .self, cursor := none, sentThrough := none }

theorem State.setJournal_setJournal (s : State) (a b : Option OwnerBatch) : (s.setJournal a).setJournal b = s.setJournal b := rfl

/-- With no records and no JSEG the end of the owner's batch clears the batch alone. -/
theorem State.endOwnerBatch_empty (s : State) (hk : s.line.kept = []) (h9 : s.slot 9 = .free) (hr : s.held.records = []) :
    s.endOwnerBatch = s.setJournal none := by
  have hfixed : s.held.revert = s.held := by
    simp only [HeldMemory.revert, hr, List.map_nil]; rw [← hr]
  simp only [State.endOwnerBatch, State.withdraw_jseg_free s hk h9, State.onHeld_fixed s _ hfixed]

/-- The local pull of an empty journal chooses a batch of no records. -/
theorem State.jpullLocal_empty (s : State) (hk : s.line.kept = []) (h9 : s.slot 9 = .free) (hr : s.held.records = []) :
    s.jpullLocal = s.setJournal (some noRecords) := by
  have hfixed : ∀ k, ({ s.held with records := markInFlight k s.held.records } : HeldMemory) = s.held := by
    intro k
    have hmark : markInFlight k s.held.records = s.held.records := by rw [hr]; cases k <;> rfl
    rw [hmark]
  have hchosen : s.chooseBatch .self Config.batchRecords = s.setJournal (some noRecords) := by
    simp only [State.chooseBatch, State.endOwnerBatch_empty s hk h9 hr]
    rw [State.onHeld_fixed _ _ (by exact hfixed _)]
    simp only [State.setJournal_setJournal, State.setJournal_held, hr]
    rfl
  have hnewest : s.held.newestInFlight = none := by simp [HeldMemory.newestInFlight, HeldMemory.batchRecords, hr]
  simp only [State.jpullLocal, hchosen, State.setJournal_journal, State.setJournal_held, hnewest, State.setJournal_setJournal]
  rfl

/-- The local Journal answers EMPTY (R103): no batch of this station begins. -/
theorem State.beginBatch_empty (s : State) (h : NothingToDrain s) : s.beginBatch s.self = none := by
  have hnone : (s.setJournal (some noRecords)).held.batchRecords = [] := by
    simp [HeldMemory.batchRecords, h.records]
  simp only [State.beginBatch, h.up, State.jpullLocal_empty s h.kept h.slot h.records, hnone, Bool.not_true, Bool.false_eq_true,
    if_false, if_true, List.map_nil, List.isEmpty_nil]

theorem NothingToDrain.onNight {s : State} (h : NothingToDrain s) (f : Night → Night)
    (hf : (f s.night).dayDrain = false) : NothingToDrain (s.onNight f) :=
  ⟨hf, h.up, h.kept, h.slot, h.records, h.away⟩

theorem NothingToDrain.setJournal {s : State} (h : NothingToDrain s) (b : Option OwnerBatch) :
    NothingToDrain (s.setJournal b) :=
  ⟨h.night, h.up, h.kept, h.slot, h.records, h.away⟩

/-- The outcome of a station where nothing is drained. -/
def idleOutcome (s : State) (n : Station) : DrainOutcome :=
  if n = s.self then .empty else if s.entry n = none then .none else .absent

/-- The walk has passed a station and drained nothing there. -/
def walkedPast (s : State) (n : Station) : State :=
  (s.setJournal (if n = s.self then some noRecords else s.journal)).onNight fun x => x.setOutcome n (idleOutcome s n)

theorem NothingToDrain.walkedPast {s : State} (h : NothingToDrain s) (n : Station) : NothingToDrain (walkedPast s n) :=
  (h.setJournal _).onNight _ h.night

/-- One step of the walk of a branch with nothing to drain. -/
theorem State.walkOn_passes (s : State) (h : NothingToDrain s) (n : Station) (rest : List Station) :
    State.walkOn (n :: rest) s = State.walkOn rest (walkedPast s n) := by
  rw [State.walkOn]
  by_cases hn : n = s.self
  · have hdrains : s.drains n = true := by simp [State.drains, h.night, hn]
    have hzero : NothingToDrain (s.onNight fun x => { x with attempts := 0 }) := h.onNight _ h.night
    have hempty : (s.onNight fun x => { x with attempts := 0 }).beginBatch n = none := hn ▸ State.beginBatch_empty _ hzero
    simp only [hdrains, hempty, if_true, State.jpullLocal_empty s h.kept h.slot h.records, walkedPast, idleOutcome, if_pos hn]
  · have houtcome : (if s.absent n then DrainOutcome.absent else .none) = idleOutcome s n := by
      cases he : s.entry n with
      | none => simp [State.absent, idleOutcome, he, hn]
      | some e => simp [State.absent, idleOutcome, he, hn, h.away n e he]
    have hdrains : s.drains n = false := by
      cases he : s.entry n with
      | none => simp [State.drains, h.night, he, hn]
      | some e => simp [State.drains, State.absent, h.night, he, hn, h.away n e he]
    simp only [hdrains, h.night, houtcome, walkedPast, if_neg hn, Bool.false_eq_true, if_false]
    rfl

/-- The walk of a branch with nothing to drain passes every station: each has its outcome, and its counts as they were. -/
theorem State.walkOn_idle (ns : List Station) (s : State) (h : NothingToDrain s) :
    ∃ drain : Vector DrainEntry 8,
      (∀ m : Station, drain[m.val] =
        if m ∈ ns then { s.night.drain[m.val] with outcome := idleOutcome s m } else s.night.drain[m.val]) ∧
      State.walkOn ns s = (s.setJournal (if s.self ∈ ns then some noRecords else s.journal)).onNight fun x =>
        { x with drain := drain, walk := none, batch := none } := by
  induction ns generalizing s with
  | nil => exact ⟨s.night.drain, fun m => by simp, rfl⟩
  | cons n rest ih =>
    obtain ⟨drain, hdrain, hwalk⟩ := ih (walkedPast s n) (h.walkedPast n)
    refine ⟨drain, fun m => ?_, ?_⟩
    · have hout : idleOutcome (walkedPast s n) m = idleOutcome s m := rfl
      have hpassed : (walkedPast s n).night.drain[m.val] =
          if m = n then { s.night.drain[m.val] with outcome := idleOutcome s m } else s.night.drain[m.val] := by
        by_cases hm : m = n
        · subst hm; simp [walkedPast]
        · simp [walkedPast, hm, Night.setOutcome_drain_ne]
      rw [hdrain m, hout, hpassed]
      by_cases hm : m = n <;> by_cases hr : m ∈ rest <;> simp [hm, hr]
    · have hjournal : (if (walkedPast s n).self ∈ rest then some noRecords else (walkedPast s n).journal) =
          if s.self ∈ n :: rest then some noRecords else s.journal := by
        have hself : (walkedPast s n).self = s.self := rfl
        have hone : (walkedPast s n).journal = if n = s.self then some noRecords else s.journal := rfl
        simp only [hself, hone, List.mem_cons, eq_comm (a := s.self) (b := n)]
        by_cases hr : s.self ∈ rest <;> by_cases hn : n = s.self <;> simp [hr, hn]
      rw [State.walkOn_passes s h n rest, hwalk, hjournal]
      rfl

/-- The Night Exchange of a claimer whose claim has stood: EXCHANGING, in CONNECT (R161, R163). -/
def exchangeBegun (x : Night) (self : Station) : Night :=
  { x.leaveExchange with
    state := .exchanging, stage := some .connect, exchange := some self, refused := [], refusedCount := 0
    drainOutcome := none, pricesOutcome := none, timeOutcome := none }

/-- A claimer whose claim has stood says HELD. -/
def exchangeHeld (s : State) : State :=
  (s.onNight fun x => exchangeBegun x s.self).setSlot 2 (placed none (.night .held))

/-- With the uplink up CONNECT ends as soon as a claim has stood. -/
theorem State.claimExpiry_connects (s : State) (w : Nat) (hst : s.night.state = .claiming) (hc : s.night.claimUntil = some w)
    (hw : w ≤ s.now) (hs : s.silenced = false) (hu : s.uplinkUp = true) (h2 : s.slot 2 = .free) (hk : s.line.kept = []) :
    s.claimExpiry = (exchangeHeld s).connectEnd := by
  have hheld : (s.onNight fun x => exchangeBegun x s.self).produceNight .held = exchangeHeld s :=
    State.produceNight_free _ _ (by simpa using hs) (by simpa using hk) (by simpa using h2)
  have hup : (exchangeHeld s).uplinkUp = true := hu
  have hdue : (decide (s.night.state ≠ .claiming) || decide (s.now < w)) = false := by
    simp [hst, hw]
  unfold State.claimExpiry
  simp only [hc, hdue, hs, Bool.false_eq_true, if_false]
  exact (congrArg (fun t : State => if t.uplinkUp then t.connectEnd else t) hheld).trans (if_pos hup)

/-- The HELD in slot 2 leaves a branch with nothing to drain as it is. -/
theorem NothingToDrain.exchangeHeld {s : State} (h : NothingToDrain s) : NothingToDrain (exchangeHeld s) where
  night := h.night
  up := h.up
  kept := h.kept
  slot := (State.slot_setSlot_ne _ 2 9 _ (by decide)).trans h.slot
  records := h.records
  away := h.away

/-- CONNECT ends in a branch with nothing to drain: DRAIN is walked at once, and PRICES begins (R163, R164). -/
theorem State.connectEnd_idle (s : State) (h : NothingToDrain s) (h1 : s.night.d1 = false) :
    ∃ drain : Vector DrainEntry 8,
      (∀ m : Station, drain[m.val] = { s.night.drain[m.val] with outcome := idleOutcome s m }) ∧
      s.connectEnd = (s.setJournal (some noRecords)).onNight fun x =>
        entersPrices { x with drain := drain } (Night.drained { x with drain := drain }) s.items.applied := by
  have hall : ∀ m : Station, m ∈ allStations := by decide
  obtain ⟨drain, hdrain, hwalk⟩ := State.walkOn_idle allStations (s.onNight fun x => { x with stage := some .drain })
    (h.onNight _ h.night)
  refine ⟨drain, fun m => (hdrain m).trans (if_pos (hall m)), ?_⟩
  rw [if_pos (hall _)] at hwalk
  simp only [State.connectEnd, h1, Bool.false_eq_true, if_false, hwalk]
  rw [State.walkDone_night _ rfl (by exact h.night), State.drainEnd_eq]
  rfl

/-- DRAIN of a branch with nothing to drain is complete where every peer is UNKNOWN. -/
theorem drained_idle_iff (s : State) (x : Night) (hx : ∀ m : Station, x.drain[m.val].outcome = idleOutcome s m) :
    x.drained = true ↔ ∀ n : Station, n ≠ s.self → s.entry n = none := by
  have hone : ∀ m : Station, (idleOutcome s m = .none ∨ idleOutcome s m = .empty) ↔ (m ≠ s.self → s.entry m = none) := by
    intro m
    by_cases hm : m = s.self <;> by_cases he : s.entry m = none <;> simp [idleOutcome, hm, he]
  simp only [Night.drained_iff, hx, hone]

end Sys2Proof.Machine.NightBatches

namespace Sys2Proof.Machine
open NightBatches

/-- Settles O58, clause by clause: each command is taken to the shared operation behind it (the end of a collection, a failed
attempt, a release, the finishing of a station, the walk), whose lemma above says what it leaves. -/
theorem batchWaitsAndJtaken : Obligations.BatchWaitsAndJtaken := by
  unfold Obligations.BatchWaitsAndJtaken
  refine ⟨?segmentWait, ?jtaken, ?takenWait, ?failed, ?released, ?segments, ?idleWalk⟩
  case segmentWait =>
    intro s b d hp hb hph
    rw [exec_segmentWaitExpiry s hp, State.segmentExpiry_collecting (outCleared s) b d hb hph]
    constructor
    · intro hd hc
      rw [if_pos (by exact hd), State.collectionEnd_puts (outCleared s) b hc]
    · intro hd
      rw [if_neg (by exact Nat.not_le.mpr hd)]
  case jtaken =>
    intro s b d station seq newest hp hf hb hph
    rw [exec_jtaken_fitted s station seq hp hf]
    constructor
    · rintro rfl hl hlt
      rw [State.jtaken_own (carrierHeard s) b seq newest hb (.inr ⟨d, hph⟩) hl, if_neg (Nat.not_le.mpr hlt)]
    · intro hne
      rw [State.jtaken_other (carrierHeard s) b station seq hb hne]
  case takenWait =>
    intro s b d hp hb hph
    rw [exec_takenWaitExpiry s hp, State.takenExpiry_awaiting (outCleared s) b d hb hph]
    refine ⟨fun hd => ?_, fun hd hnone => ?_, fun hd hsome => ?_⟩
    · rw [if_pos (by exact hd)]
    · rw [if_neg (by exact Nat.not_lt.mpr hd), if_pos ((Batch.released_isEmpty_iff b).mpr hnone)]
      rfl
    · have hr : ¬ b.released.isEmpty = true := by
        obtain ⟨c, hmem, hle⟩ := hsome
        exact fun h => absurd ((Batch.released_isEmpty_iff b).mp h c hmem) (Nat.not_lt.mpr hle)
      rw [if_neg (by exact Nat.not_lt.mpr hd), if_neg hr]
      rfl
  case failed =>
    intro s b d hp hb hph hd hc h1 hday hlost hself
    rw [exec_segmentWaitExpiry s hp, State.segmentExpiry_collecting (outCleared s) b d hb hph, if_pos (by exact hd),
      State.collectionEnd_fails (outCleared s) b hc]
    constructor
    · intro ha hu hs h8 hk
      have ha3 : attemptsAfter b s.night.attempts < 3 := by
        unfold attemptsAfter
        cases hl : b.linkLost <;> simp [hl] at ha ⊢ <;> omega
      rw [State.failedAttempt_again (outCleared s) b hday h1 hlost hself ha3 hu hs h8 hk]
      rfl
    · rintro counted ha hlink h7 rfl
      have ha3 : 3 ≤ attemptsAfter b s.night.attempts := by simp [attemptsAfter, hlink, ha]
      rw [State.failedAttempt_third (outCleared s) b hday h1 hlost ha3 h7]
      rfl
  case released =>
    intro s b seq newest hp hf hb hph hl hle hself hlost h1 hday hu hs h8 hk
    have hr : ({ b with taken := max b.taken seq } : Batch).released.isEmpty = false := by
      rw [Bool.eq_false_iff, ne_eq, Batch.released_isEmpty_iff]
      exact fun h => absurd (h newest (List.mem_of_getLast? hl)) (Nat.not_lt.mpr hle)
    have hup : s.uplinkUp = true := by simp [State.uplinkUp, hf, hu]
    rw [exec_jtaken_fitted s _ seq hp hf, State.jtaken_own (carrierHeard s) b seq newest hb hph hl, if_pos hle,
      State.releaseBatch_peer (carrierHeard s) { b with taken := max b.taken seq } hday h1 hlost hself hr hup hs h8 hk]
    simp only [State.onLine, State.setSlot, State.onNight, hk, List.nil_append, releaseNote]
    rfl
  case segments =>
    intro claim bytes s n g b d old grown counted hgrown hcounted hp hsfc hgood hr hn hb ht hph hbr
    subst ht hgrown
    rw [exec_jseg_collected claim bytes s g b d hp hsfc hgood hr hn hb hph]
    constructor
    · intro he
      have hshown : counted = firstShownOf s.night b g := by rw [hcounted]; simp [he, firstShownOf]
      have hwaiting : counted.waiting = s.night.waiting := by rw [hshown, firstShownOf_waiting]
      refine ⟨fun hseg => ?_, fun hseg => ?_⟩
      · obtain ⟨hx, rfl⟩ := Batch.expects_of b g old hseg
        refine ⟨fun hmore => ?_, fun hlast hrest => ?_, fun hlast hend => ?_⟩
        · rw [State.collect_expected (heardGood s) b g _ hb he hbr hx (by simp [hmore]), Batch.takeSegment_more _ g hmore,
            hshown]
          rfl
        · rw [State.collect_expected (heardGood s) b g _ hb he hbr hx (by simp [hrest]), Batch.takeSegment_last _ g hlast,
            hshown]
          rfl
        · rw [State.collect_last (heardGood s) b g _ hb he hbr hx (by simp [hlast, hend]), Batch.takeSegment_last _ g hlast,
            State.collectionEnd_puts _ _ (by simp), ← hwaiting, hshown]
          rfl
      · rw [State.collect_unexpected (heardGood s) b g _ hb he hbr (Batch.not_expects_of b g hseg)]
        rfl
    · intro he hday h1
      have hshown : counted = s.night.releasesShown b.target none := by rw [hcounted, if_pos he]
      rw [State.collect_empty (heardGood s) b g _ hb he]
      constructor
      · intro m e hm hself hentry hpres hu hs h8 hk
        rw [State.finishStation_next (heardGood s) b.target m .empty e hday h1 hm hself hentry hpres hu hs h8 hk, hshown]
        rfl
      · intro h7
        rw [h7] at hshown ⊢
        rw [State.finishStation_last (heardGood s) .empty hday h1]
        refine ⟨_, rfl, ?_, Option.some_ne_none _, hshown ▸ rfl⟩
        exact Option.some_inj.trans (Night.emptyShown_drained_iff s.night 7)
  case idleWalk =>
    intro s w hp hst hc hw hs hu h1 hday h2 h9 hk hrec haway
    rw [exec_claimWaitExpiry s hp, State.claimExpiry_connects (outCleared s) w hst hc hw hs hu h2 hk]
    have hidle : NothingToDrain (exchangeHeld (outCleared s)) :=
      NothingToDrain.exchangeHeld ⟨hday, hu, hk, h9, hrec, haway⟩
    obtain ⟨drain, hdrain, hend⟩ := State.connectEnd_idle (exchangeHeld (outCleared s)) hidle h1
    rw [hend]
    refine ⟨_, rfl, hdrain, ?_, Option.some_ne_none _, rfl⟩
    exact Option.some_inj.trans (drained_idle_iff (exchangeHeld (outCleared s)) _ fun m => congrArg DrainEntry.outcome (hdrain m))

end Sys2Proof.Machine
